-- ==== Sys2Proof/Word.lean ====
section
/-! DEFINITION. The words of the part: bytes, sequences, blocks of samples, and tables of a fixed size. -/

namespace Sys2Proof

/-- One byte of a frame, a request or a response. -/
abbrev Byte := BitVec 8

/-- A sequence: 0 to 65,535, wrapping (R5, R174). -/
abbrev Seq := BitVec 16

/-- The sixteen samples of one channel in one block. Samples are exact integers (Sample Arithmetic, R36). -/
abbrev Block := Vector Int 16

/-- A block of sixteen zeros. -/
def Block.zero : Block := Vector.replicate 16 0

/-- A table of `n` values, entry `i` being `f i`. -/
def tab {α : Type} {n : Nat} (f : Fin n → α) : Vector α n := Vector.ofFn f

/-- The table with entry `i` replaced by `f` of it. -/
def upd {α : Type} {n : Nat} (v : Vector α n) (i : Fin n) (f : α → α) : Vector α n := v.set i (f (v.get i))

/-- A count: it stops at 65,535 and does not wrap (Conventions; R174). -/
def addCount (count more : Nat) : Nat := min 65535 (count + more)

end Sys2Proof
end

