-- ==== Sys2Proof/Config.lean ====
section
/-! DEFINITION. What the spec leaves to the part, as free values without a body, and the model's unit of time. -/

namespace Sys2Proof

/-- Ticks of the local oscillator in one block. DESIGN CHOICE (log entry 5): the unit in which the model counts
the instants of R2, R3 and R165; 1/64 of a block is 1,024 ticks. -/
def Config.ticksPerBlock : Nat := 65536

/-- FREE VALUE (log entry 7): the choices by which the events raised at one moment are put in order, where no rule
orders them (R170). The first argument is the state's free-value counter, the second the place in the queue. -/
opaque Config.eventOrder : Nat → Nat → Nat

/-- FREE VALUE (log entry 8): from it the number of idle-fill bytes before a response mark is taken, of which the
part "may choose any" from 0 to 3 (R158). The argument is the state's free-value counter. -/
opaque Config.responseFill : Nat → Nat

/-- FREE VALUE (log entry 9): the byte that CDOUT carries while a request byte is shifted in, which no rule states.
The argument is the state's free-value counter. -/
opaque Config.requestCdout : Nat → Byte

end Sys2Proof
end

