-- ==== Sys2Proof/Syntax.lean ====
section
/-! DEFINITION. The commands of the block: one constructor for each row of spec/opcode_table.json. -/

namespace Sys2Proof

/-- What a block strobe brings: the instant of the local oscillator at which it arrives (R2), and the two group
fault inputs as a taken strobe samples them (R59), true being asserted. -/
structure StrobeInput where
  /-- The instant, in ticks of the local oscillator. -/
  instant : Nat
  /-- GFLT_A. -/
  faultA : Bool
  /-- GFLT_B. -/
  faultB : Bool
deriving DecidableEq, Repr

/-- How a frame's reception ended (R8): after the length its header gives, closed at the end of the slot, or cut off
by its sender's releasing the lane. -/
inductive FrameEnding where
  | atLength
  | atSlotEnd
  | cutOff
deriving DecidableEq, Repr

/-- What the end of a reset brings: its instant, which becomes the strobe monitor's reference (R2), and the four
station straps, STN0 the least significant bit (R4). -/
structure ResetEnd where
  /-- The instant, in ticks of the local oscillator. -/
  instant : Nat
  /-- STN3 to STN0. -/
  straps : BitVec 4
deriving DecidableEq, Repr

/-- The two moments of which the earlier begins a command reset (R165). -/
inductive ResetMoment where
  /-- The last byte of the response has been clocked out. -/
  | responseEnds
  /-- The selection ends, these bytes having been clocked since the last command. -/
  | selectionEnds (clocked : List Byte)
deriving DecidableEq, Repr

/-- The commands. A request carries its argument bytes as they stand on CDIN (R157, R179), so that a wrong length or
an argument out of range is a command too. A row that names a threshold reached inside a larger step (R11, R12, R16,
R19, R66, R144, R147, R153, R2, R3, R165) carries the operands of that step (log entry 3). -/
inductive Instr where
  | blockStrobe (inp : StrobeInput)
  | strobeMissing
  | strobeLoss
  | goodRunTimeout
  | strobeRunComplete (inp : StrobeInput)
  | frameStart (lane : Fin 16)
  | frameComplete (lane : Fin 16) (bytes : List Byte) (ending : FrameEnding)
  | acquireComplete (inp : StrobeInput) (lane : Fin 16)
  | missLimit (inp : StrobeInput) (lane : Fin 16)
  | listenComplete (inp : StrobeInput)
  | echoMismatchLimit (inp : StrobeInput)
  | quietRunComplete (inp : StrobeInput) (port : Fin 8)
  | withdrawalTimerExpiry (inp : StrobeInput)
  | finalCountComplete (inp : StrobeInput)
  | laneTestComplete (inp : StrobeInput)
  | powerOnReset
  | powerOnRelease (fin : ResetEnd)
  | resetPinAssert
  | resetPinNegate (fin : ResetEnd)
  | commandResetBegin (moment : ResetMoment)
  | commandResetExpiry (fin : ResetEnd)
  | select (clocked : List Byte)
  | deselect (clocked : List Byte)
  | unknownRequest (code : Byte) (args : List Byte)
  | status (args : List Byte)
  | stationReset (args : List Byte)
  | clearCounts (args : List Byte)
  | laneStats (args : List Byte)
  | readEvent (args : List Byte)
  | withdrawNormal (args : List Byte)
  | withdrawForced (args : List Byte)
  | rejoin (args : List Byte)
  | laneTest (args : List Byte)
  | directoryList (args : List Byte)
  | directoryQuery (args : List Byte)
  | setState (args : List Byte)
  | portClear (args : List Byte)
  | groupRestore (args : List Byte)
  | setMonitor (args : List Byte)
  | portQuery (args : List Byte)
  | setEntry (args : List Byte)
  | removeEntry (args : List Byte)
  | setMinus (args : List Byte)
  | setPad (args : List Byte)
  | setTalkback (args : List Byte)
  | talkbackOn (args : List Byte)
  | talkbackOff (args : List Byte)
  | setCadence (args : List Byte)
  | setTerm (args : List Byte)
  | removeTerm (args : List Byte)
  | clearMix (args : List Byte)
  | mixOn (args : List Byte)
  | mixOff (args : List Byte)
  | mixQuery (args : List Byte)
  | sampleFrame (adin : Vector (BitVec 32) 16)
  | responseEnd
deriving DecidableEq, Repr

end Sys2Proof
end

