-- ==== Sys2Proof/Machine/State.lean ====
section
/-! DEFINITION. The state of the part, as plain data, and the part right after reset. -/

namespace Sys2Proof.Machine

/-! ## Tags and kinds -/

/-- A tag names one contribution: a station and a channel (Tags; R174). -/
structure Tag where
  /-- The station, 0 to 15. -/
  station : Fin 16
  /-- The channel, 0 to 15. -/
  channel : Fin 16
deriving DecidableEq, Repr

/-- The kind of a contribution, fixed by its channel (R174). -/
inductive Kind where
  | party
  | feed
  | mix
deriving DecidableEq, Repr

/-! ## Lane interface -/

/-- The condition of the strobe monitor (R2). -/
inductive Condition where
  | timed
  | lost
deriving DecidableEq, Repr

/-- The strobe monitor (R2, R3). -/
structure Monitor where
  /-- TIMED or LOST. -/
  condition : Condition
  /-- The reference instant, in ticks; none while LOST waits for a first strobe. -/
  reference : Option Nat
  /-- The missed count, 0 to 4. -/
  missed : Nat
  /-- The good-run count, 0 to 4. -/
  goodRun : Nat
deriving DecidableEq, Repr

/-- The class of a completed frame (R9). A good frame passed all six tests. -/
inductive FrameClass where
  | good
  | checkFailure
  | stationMismatch
  | testFrame
deriving DecidableEq, Repr

/-- A frame whose reception has completed: its bytes and its class (R8, R9). -/
structure Received where
  /-- The bytes taken, up to the frame length. -/
  bytes : List Byte
  /-- The class the tests gave it. -/
  cls : FrameClass
deriving DecidableEq, Repr

/-- The receive state of a lane, with the fields present in it (R11, R12). -/
inductive Receive where
  | absent
  | acquiring (previous : Seq) (acquired : Nat)
  | present (previous : Seq)
  | lapsed (previous : Seq) (misses : Nat)
deriving DecidableEq, Repr

/-- A lane's receiver, receive record, kept withdrawing flag (R149) and statistics (R10). -/
structure Lane where
  /-- Its receiver is following a frame (R8). -/
  receiving : Bool
  /-- The last frame completed since the last taken strobe (R8). -/
  frame : Option Received
  /-- The receive state (R11, R12). -/
  receive : Receive
  /-- The final mark (R13). -/
  finalMark : Bool
  /-- The kept withdrawing flag (R149). -/
  withdrawing : Bool
  /-- Frames that passed all six tests. -/
  good : Nat
  /-- Frames of the class check failure. -/
  checkFailures : Nat
  /-- Frames of the class station-number mismatch. -/
  stationMismatches : Nat
  /-- Slips (R12). -/
  slips : Nat
  /-- Frames of the class test frame. -/
  testFrames : Nat
deriving DecidableEq, Repr

/-- LOUT: released, or driven with the frame of the slot, idle fill following it (R6). A driven lane with no frame
carries idle fill alone. -/
inductive Lout where
  | released
  | driven (frame : List Byte)
deriving DecidableEq, Repr

/-! ## Station controller -/

/-- Why a station is closing (R141). -/
inductive ClosingCause where
  | normal
  | forced
deriving DecidableEq, Repr

/-- A running lane test (R141, R152). -/
structure LaneTest where
  /-- Frames sent, 0 to 4. -/
  sent : Nat
  /-- Echoes judged, 0 to 4. -/
  judged : Nat
  /-- Missing echoes. -/
  missing : Nat
  /-- Differing echoes. -/
  differing : Nat
deriving DecidableEq, Repr

/-- The station state, with the fields that R19 and R141 make present in it: in STARTING the quiet count once the
listen window has begun, and whether a frame has started on the own lane since STARTING was entered; in WITHDRAWING
the timer; in CLOSING the cause and the FINAL count; in WITHDRAWN the running lane test. -/
inductive Station where
  | starting (quiet : Option Nat) (ownStarted : Bool)
  | running
  | withdrawing (timer : Nat)
  | closing (cause : ClosingCause) (finals : Nat)
  | withdrawn (test : Option LaneTest)
  | conflict
  | untimed
deriving DecidableEq, Repr

/-- The name of a station state, as events carry it, in the order of STATUS (R179, R180). -/
inductive StationName where
  | starting
  | running
  | withdrawing
  | closing
  | withdrawn
  | conflict
  | untimed
deriving DecidableEq, Repr

/-- The kinds of reset (R166). -/
inductive ResetCause where
  | power
  | pin
  | command
deriving DecidableEq, Repr

/-- Which resets hold: the power-on detector's, the pin's (RESET_N asserted) and a command's (R166). -/
structure Resets where
  /-- The power-on detector holds its reset. -/
  power : Bool
  /-- RESET_N is asserted. -/
  pin : Bool
  /-- A command reset runs. -/
  command : Bool
deriving DecidableEq, Repr

/-! ## Source directory -/

/-- The states of a party port (R51). -/
inductive PortState where
  | idle
  | screen
  | hold
  | air
  | outOfService
deriving DecidableEq, Repr

/-- A composition record (R81): the mix channel, the stamps (lane and sequence, lanes ascending), the included terms
(tag and coefficient) and the clip flag. The included term count is the number of terms. -/
structure CompRecord where
  /-- The mix channel, 12 to 15. -/
  channel : Fin 16
  /-- The stamp list. -/
  stamps : List (Fin 16 × Seq)
  /-- The included terms. -/
  terms : List (Tag × Nat)
  /-- The clip flag. -/
  clip : Bool
deriving DecidableEq, Repr

/-- The fields of a directory entry that depend on its kind (R24). -/
inductive EntryBody where
  | party (state : PortState) (activity : Bool) (holder : Option Tag) (pendingCount : Nat)
  | feed
  | mix (record : CompRecord)
deriving DecidableEq, Repr

/-- A directory entry (R24). -/
structure Entry where
  /-- The sequence of the frame it was last written from. -/
  sequence : Seq
  /-- Written from a frame of the block just ended. -/
  fresh : Bool
  /-- Taken strobes since it was last written. -/
  age : Nat
  /-- The sixteen samples. -/
  samples : Block
  /-- The fields of its kind. -/
  body : EntryBody
deriving DecidableEq, Repr

/-! ## Party ports -/

/-- How a port's activity threshold was chosen (R68). -/
inductive ThresholdChoice where
  | low
  | mid
  | high
  | set
deriving DecidableEq, Repr

/-- A tag and its level: a recipe entry with its gain (R106). -/
structure RecipeEntry where
  /-- The source. -/
  tag : Tag
  /-- The gain, 0 to 32,768. -/
  gain : Nat
deriving DecidableEq, Repr

/-- All that the part keeps for one party port: the port controller's record (R51), the claim record (R88), the return
record (R105) and the cue record (R128). -/
structure Port where
  /-- R51: the port state. -/
  state : PortState
  /-- R51: the threshold choice. -/
  choice : ThresholdChoice
  /-- R51: the activity threshold. -/
  threshold : Nat
  /-- R51: the notice setting. -/
  notice : Bool
  /-- R51: the largest magnitude of the last block measured. -/
  peak : Nat
  /-- R51: the activity bit of the last block measured. -/
  activity : Bool
  /-- R51: the quiet count, 0 to 600. -/
  quiet : Nat
  /-- R51: armed. -/
  armed : Bool
  /-- R88: the holder. -/
  holder : Option Tag
  /-- R88: the pending queue, head first. -/
  queue : List Tag
  /-- R105: the SCREEN recipe. -/
  screenRecipe : List RecipeEntry
  /-- R105: the HOLD recipe. -/
  holdRecipe : List RecipeEntry
  /-- R105: the AIR recipe. -/
  airRecipe : List RecipeEntry
  /-- R105: the minus extras. -/
  extras : List Tag
  /-- R105: the pad, 0 to 6. -/
  pad : Nat
  /-- R105: the miss count. -/
  misses : Nat
  /-- R105: the saturation count. -/
  saturations : Nat
  /-- R105: the miss-reported flag. -/
  missReported : Bool
  /-- R128: the talkback source. -/
  source : Option Tag
  /-- R128: the talkback gain. -/
  talkGain : Nat
  /-- R128: the duck. -/
  duck : Nat
  /-- R128: talkback on. -/
  talkback : Bool
  /-- R128: the cadence period in blocks. -/
  period : Nat
  /-- R128: the cadence on-time in blocks. -/
  onTime : Nat
  /-- R128: the tone's amplitude. -/
  amplitude : Nat
  /-- R128: the cadence counter. -/
  counter : Nat
deriving DecidableEq, Repr

/-- The two line groups (R51). -/
inductive Group where
  | a
  | b
deriving DecidableEq, Repr

/-! ## Mixes -/

/-- The claim status of a PARTY term (R70). -/
inductive ClaimStatus where
  | held
  | waiting
  | unheard
deriving DecidableEq, Repr

/-- A term of a mix (R70): its tag, its coefficient and, for a PARTY term, its claim status. -/
structure Term where
  /-- The source. -/
  tag : Tag
  /-- The coefficient, 0 to 32,768. -/
  coefficient : Nat
  /-- The claim status; none for a FEED term. -/
  status : Option ClaimStatus
deriving DecidableEq, Repr

/-- A mix record (R70). -/
structure Mix where
  /-- LIVE (true) or OFF. -/
  live : Bool
  /-- The term list. -/
  terms : List Term
  /-- The number of terms included in the last block composed. -/
  lastIncluded : Nat
  /-- The clip flag of the last block composed. -/
  lastClip : Bool
deriving DecidableEq, Repr

/-- A record of the outbound history (R113): the sequence of a NORMAL frame sent and the samples of each own PARTY
and FEED channel it carried. -/
structure HistoryRecord where
  /-- The sequence of the frame. -/
  sequence : Seq
  /-- The channels and their samples. -/
  channels : List (Fin 16 × Block)
deriving DecidableEq, Repr

/-! ## Events -/

/-- Why a station entered CONFLICT (R20). -/
inductive ConflictCause where
  | listen
  | echo
deriving DecidableEq, Repr

/-- Why a mix entry was a cancel miss (R121). -/
inductive MissCause where
  | clipped
  | unrecorded
  | incomplete
deriving DecidableEq, Repr

/-- The result of a lane test (R153, R154). -/
inductive TestResult where
  | pass
  | mismatch
  | noEcho
  | aborted
deriving DecidableEq, Repr

/-- The seventeen kinds of event, with subject and detail, in the order of the catalogue of Control Link (10.6). -/
inductive Event where
  | lanePresent (lane : Fin 16) (third : Seq)
  | laneLost (lane : Fin 16) (previous : Seq)
  | laneWithdrawn (lane : Fin 16) (previous : Seq)
  | laneConflict (lane : Fin 16) (cause : ConflictCause)
  | strobeLost (state : StationName)
  | strobeBack (state : StationName)
  | stationRunning (first : Seq)
  | claimGained (mix party : Tag)
  | claimLost (mix party : Tag) (entered : ClaimStatus)
  | claimDropped (port : Fin 8) (mix : Tag)
  | partyActive (port : Fin 8) (state : PortState)
  | cancelMiss (port : Fin 8) (mix : Tag) (cause : MissCause)
  | groupFault (group : Group) (moved : Nat)
  | groupClear (group : Group) (outOfService : Nat)
  | withdrawDenied (held : Nat)
  | withdrawDone (cause : ClosingCause) (finals : Nat)
  | testDone (lane : Fin 16) (result : TestResult) (matched : Nat)
deriving DecidableEq, Repr

/-- A record of the event queue (R168). -/
structure EventRecord where
  /-- Kind, subject and detail. -/
  event : Event
  /-- The sequence counter when the event was raised. -/
  sequence : Seq
deriving DecidableEq, Repr

/-! ## Control link -/

/-- The state of the control link (R156): in REQUEST the bytes held; in RESPONSE the idle-fill bytes still to come
and the bytes of the response, from the mark on, still to go (R158). -/
inductive LinkState where
  | deselected
  | request (bytes : List Byte)
  | response (fill : Nat) (rest : List Byte)
  | drain
  | barred
deriving DecidableEq, Repr

/-- CDOUT: released, or driven, with the byte it carried last in this selection (R155, R156). -/
inductive Cdout where
  | released
  | driven (last : Option Byte)
deriving DecidableEq, Repr

/-- The control link (R155 to R159, R165). -/
structure Link where
  /-- The link state. -/
  state : LinkState
  /-- CSEL_N as the host drives it: asserted. -/
  selected : Bool
  /-- CDOUT. -/
  cdout : Cdout
  /-- The cut count (R159). -/
  cutCount : Nat
  /-- An accepted STATION RESET whose reset has not begun (R165). -/
  resetArmed : Bool
deriving DecidableEq, Repr

/-- The result codes (R160). -/
inductive ResultCode where
  | ok
  | adjusted
  | refused
  | conflict
  | full
  | notFound
  | badArgument
  | unknown
deriving DecidableEq, Repr

/-- A response as acceptance fixes it (R158). -/
structure Response where
  /-- The result code. -/
  code : ResultCode
  /-- The data. -/
  data : List Byte
deriving DecidableEq, Repr

/-! ## The whole part -/

/-- Every piece of state the spec gives the part (INVENTORY.md), and the model's own two fields `pending` and
`freeCount`. -/
structure State where
  /-- The commands that wait, front first (the model's own: log entry 1). -/
  pending : List Instr
  /-- The strobe monitor (R2). -/
  monitor : Monitor
  /-- The station number, which is also the own lane (R4). -/
  stationNumber : Fin 16
  /-- The sequence counter (R5). -/
  sequence : Seq
  /-- The station state (R18, R141). -/
  station : Station
  /-- The echo mismatch count (R16). -/
  echoMismatch : Nat
  /-- The reset cause (R166). -/
  resetCause : ResetCause
  /-- Which resets hold (R166). -/
  resets : Resets
  /-- The sixteen lanes. -/
  lanes : Vector Lane 16
  /-- The frame sent at the previous taken strobe (R16, R153). -/
  sent : Option (List Byte)
  /-- LOUT (R6). -/
  lout : Lout
  /-- The source directory, by station and channel (R23). -/
  directory : Vector (Vector (Option Entry) 16) 16
  /-- The eight party ports. -/
  ports : Vector Port 8
  /-- The recorded level of group A, true being asserted (R51). -/
  levelA : Bool
  /-- The recorded level of group B. -/
  levelB : Bool
  /-- The four mixes. -/
  mixes : Vector Mix 4
  /-- The outbound history, oldest record first (R114). -/
  history : List HistoryRecord
  /-- The control link. -/
  link : Link
  /-- The event queue, head first (R168). -/
  events : List EventRecord
  /-- The overflow mark (R169). -/
  overflow : Bool
  /-- The twelve capture buffers (R178). -/
  capture : Vector Block 12
  /-- The eight output buffers (R178). -/
  output : Vector Block 8
  /-- The sample frames since the block began, up to 16 (R178). -/
  position : Nat
  /-- ADOUT: the slots of the last sample frame (R178). -/
  adout : Vector (BitVec 32) 16
  /-- The free-value counter (the model's own: log entry 7). -/
  freeCount : Nat
deriving DecidableEq, Repr

/-- The block raises no fault: what goes wrong is reported in its state. No command ends in one. -/
inductive Fault
deriving DecidableEq, Repr

/-- The refusals. -/
inductive Refusal where
  /-- Raised by the dispatch alone, for a command without a meaning; no arm raises it now. Safe: the model stops. -/
  | notModelled (mnemonic : String)
deriving DecidableEq, Repr

/-! ## Reset values -/

/-- A lane after reset (R18, R149). -/
def Lane.reset : Lane :=
  { receiving := false, frame := none, receive := .absent, finalMark := false, withdrawing := false
    good := 0, checkFailures := 0, stationMismatches := 0, slips := 0, testFrames := 0 }

/-- A party port after reset (R51, R88, R105, R128). -/
def Port.reset : Port :=
  { state := .idle, choice := .mid, threshold := 131072, notice := false, peak := 0, activity := false, quiet := 0
    armed := false, holder := none, queue := [], screenRecipe := [], holdRecipe := [], airRecipe := [], extras := []
    pad := 0, misses := 0, saturations := 0, missReported := false, source := none, talkGain := 8192, duck := 2048
    talkback := false, period := 3000, onTime := 300, amplitude := 0, counter := 0 }

/-- A mix after reset (R70). -/
def Mix.reset : Mix := { live := false, terms := [], lastIncluded := 0, lastClip := false }

/-- The part right after a reset. What the spec gives no value for is a DESIGN CHOICE (log entry 11): the reset
was the power-on reset, the straps read 0, CSEL_N is negated, the reset ended at instant 0, and the free-value
counter and the queue of commands start empty. -/
def State.reset : State :=
  { pending := []
    monitor := { condition := .timed, reference := some 0, missed := 0, goodRun := 0 }
    stationNumber := 0
    sequence := 0
    station := .starting none false
    echoMismatch := 0
    resetCause := .power
    resets := { power := false, pin := false, command := false }
    lanes := Vector.replicate 16 Lane.reset
    sent := none
    lout := .released
    directory := Vector.replicate 16 (Vector.replicate 16 none)
    ports := Vector.replicate 8 Port.reset
    levelA := false
    levelB := false
    mixes := Vector.replicate 4 Mix.reset
    history := []
    link := { state := .deselected, selected := false, cdout := .released, cutCount := 0, resetArmed := false }
    events := []
    overflow := false
    capture := Vector.replicate 12 Block.zero
    output := Vector.replicate 8 Block.zero
    position := 0
    adout := Vector.replicate 16 0
    freeCount := 0 }

end Sys2Proof.Machine
end

