-- ==== Sys2Proof/Machine/Arith.lean ====
section
/-! DEFINITION. Sample arithmetic (spec/03_sample_arithmetic.md): exact integers, one rounding, three limits. -/

namespace Sys2Proof.Machine

/-- The rounded product of a value and a level (R40): floor((v × c + 4,096) / 8,192). -/
def roundedProduct (v : Int) (c : Nat) : Int := (v * (c : Int) + 4096) / 8192

/-- A ducked gain (R41): the rounded product of a gain and the duck. -/
def duckedGain (gain duck : Nat) : Nat := (gain * duck + 4096) / 8192

/-- An accumulator (R42): a 32-bit register, read as signed, and a carry count. -/
structure Accumulator where
  /-- The register. -/
  register : Int
  /-- The carry count. -/
  carry : Int
deriving DecidableEq, Repr

/-- Each sum begins with the register and the carry count at 0 (R42). -/
def accStart : Accumulator := { register := 0, carry := 0 }

/-- Adding a term (R42). -/
def accAdd (acc : Accumulator) (term : Int) : Accumulator :=
  let r := acc.register + term
  if r > 2147483647 then { register := r - 4294967296, carry := acc.carry + 1 }
  else if r < -2147483648 then { register := r + 4294967296, carry := acc.carry - 1 }
  else { register := r, carry := acc.carry }

/-- The value an accumulator stands for (R42). -/
def accValue (acc : Accumulator) : Int := acc.register + acc.carry * 4294967296

/-- The sum of a list of terms, formed in an accumulator (R42). -/
def accumulate (terms : List Int) : Int := accValue (terms.foldl accAdd accStart)

/-- A value saturated to 28 bits (R43). -/
def saturate28 (v : Int) : Int :=
  if v > 134217727 then 134217727 else if v < -134217728 then -134217728 else v

/-- A value saturated to 24 bits (R50). -/
def saturate24 (v : Int) : Int :=
  if v > 8388607 then 8388607 else if v < -8388608 then -8388608 else v

/-- The pad applied to a return sum (R49): halved `k` times, rounded, an exact half going up. -/
def padded (k : Nat) (s : Int) : Int := if k = 0 then s else (s + 2 ^ (k - 1)) / 2 ^ k

/-- The magnitude of a sample (R36). -/
def magnitude (v : Int) : Nat := v.natAbs

/-- The largest magnitude of a block (R65). -/
def peakOf (block : Block) : Nat := block.toList.foldl (fun m v => max m (magnitude v)) 0

/-- The sample range (R36). -/
def sampleInRange (v : Int) : Bool := decide (-8388608 ≤ v ∧ v ≤ 8388607)

/-- The wide sample range (R36). -/
def wideInRange (v : Int) : Bool := decide (-134217728 ≤ v ∧ v ≤ 134217727)

/-- How many positions of a block a limit changed (R44, R50). -/
def changedCount (before after : Block) : Nat :=
  ((List.finRange 16).filter fun n => before.get n != after.get n).length

end Sys2Proof.Machine
end

