-- ==== Sys2Proof/Machine/Operands.lean ====
section
/-! DEFINITION. Operands: the coding of tags, numbers and named choices in requests, responses and frames
(R174, R179, R180), and the clamping of settings (R38). -/

namespace Sys2Proof.Machine

/-! ## Tags -/

/-- The kind of a channel (R174): 0 to 7 PARTY, 8 to 11 FEED, 12 to 15 MIX. -/
def kindOfChannel (channel : Fin 16) : Kind :=
  if channel.val < 8 then .party else if channel.val < 12 then .feed else .mix

/-- The kind of a tag (R174). -/
def Tag.kind (tag : Tag) : Kind := kindOfChannel tag.channel

/-- A tag's byte: the station in the high four bits (R174). -/
def tagByte (tag : Tag) : Byte := BitVec.ofNat 8 (16 * tag.station.val + tag.channel.val)

/-- The tag a byte names; every byte names one (R174). -/
def tagOfByte (b : Byte) : Tag :=
  { station := ⟨b.toNat / 16, by have := b.isLt; omega⟩, channel := ⟨b.toNat % 16, by omega⟩ }

/-- The channel of a party port. -/
def portChannel (p : Fin 8) : Fin 16 := ⟨p.val, by omega⟩

/-- The channel of a mix (5.1). -/
def mixChannel (m : Fin 4) : Fin 16 := ⟨12 + m.val, by omega⟩

/-- The group of a port (R51). -/
def groupOfPort (p : Fin 8) : Group := if p.val < 4 then .a else .b

/-! ## Numbers, most significant byte first (11, chapter head) -/

/-- One byte. -/
def be1 (n : Nat) : List Byte := [BitVec.ofNat 8 n]

/-- Two bytes. -/
def be2 (n : Nat) : List Byte := [BitVec.ofNat 8 (n / 256), BitVec.ofNat 8 n]

/-- Three bytes. -/
def be3 (n : Nat) : List Byte := [BitVec.ofNat 8 (n / 65536), BitVec.ofNat 8 (n / 256), BitVec.ofNat 8 n]

/-- Four bytes. -/
def be4 (n : Nat) : List Byte :=
  [BitVec.ofNat 8 (n / 16777216), BitVec.ofNat 8 (n / 65536), BitVec.ofNat 8 (n / 256), BitVec.ofNat 8 n]

/-- A signed value as a 32-bit two's complement field (R175). -/
def be4Signed (v : Int) : List Byte := be4 (v % 4294967296).toNat

/-- The value of two bytes. -/
def nat2 (a b : Byte) : Nat := a.toNat * 256 + b.toNat

/-- The value of three bytes. -/
def nat3 (a b c : Byte) : Nat := a.toNat * 65536 + b.toNat * 256 + c.toNat

/-- The value of four bytes. -/
def nat4 (a b c d : Byte) : Nat := a.toNat * 16777216 + b.toNat * 65536 + c.toNat * 256 + d.toNat

/-- The signed value of a 32-bit two's complement field (R175). -/
def int4 (a b c d : Byte) : Int :=
  let n := nat4 a b c d
  if n < 2147483648 then (n : Int) else (n : Int) - 4294967296

/-- A two-valued field of response data: 1 for set, on, true, yes or asserted (R180). -/
def flagByte (f : Bool) : List Byte := [if f then 1 else 0]

/-- A field that may be absent: a presence byte, then the field, or zeros of its width (R180). -/
def optField (width : Nat) : Option (List Byte) → List Byte
  | some bytes => 1 :: bytes
  | none => 0 :: List.replicate width 0

/-- A tag that may be none, in response data (R180). -/
def optTag (tag : Option Tag) : List Byte := optField 1 (tag.map fun t => [tagByte t])

/-! ## Arguments (R179) -/

/-- A port argument: 0 to 7. -/
def portArg (b : Byte) : Option (Fin 8) := if h : b.toNat < 8 then some ⟨b.toNat, h⟩ else none

/-- A mix argument: 0 to 3. -/
def mixArg (b : Byte) : Option (Fin 4) := if h : b.toNat < 4 then some ⟨b.toNat, h⟩ else none

/-- A lane argument: 0 to 15. -/
def laneArg (b : Byte) : Option (Fin 16) := if h : b.toNat < 16 then some ⟨b.toNat, h⟩ else none

/-- A group argument: 0 for A, 1 for B. -/
def groupArg (b : Byte) : Option Group :=
  match b.toNat with
  | 0 => some .a
  | 1 => some .b
  | _ => none

/-- SET STATE's target, in the order R54 lists: IDLE, SCREEN, HOLD, AIR. -/
def targetArg (b : Byte) : Option PortState :=
  match b.toNat with
  | 0 => some .idle
  | 1 => some .screen
  | 2 => some .hold
  | 3 => some .air
  | _ => none

/-- A recipe, in the order R108 lists: SCREEN, HOLD, AIR; given as the port state that uses it. -/
def recipeArg (b : Byte) : Option PortState :=
  match b.toNat with
  | 0 => some .screen
  | 1 => some .hold
  | 2 => some .air
  | _ => none

/-- A threshold choice, in the order R68 lists: LOW, MID, HIGH, SET. -/
def choiceArg (b : Byte) : Option ThresholdChoice :=
  match b.toNat with
  | 0 => some .low
  | 1 => some .mid
  | 2 => some .high
  | 3 => some .set
  | _ => none

/-- A notice setting, in the order R68 lists: on, off. DEDUCED (log entry 19). -/
def noticeArg (b : Byte) : Option Bool :=
  match b.toNat with
  | 0 => some true
  | 1 => some false
  | _ => none

/-- A talkback source: a choice byte, 0 none and 1 tag, then a tag byte, which is ignored with none. -/
def sourceArg (choice tag : Byte) : Option (Option Tag) :=
  match choice.toNat with
  | 0 => some none
  | 1 => some (some (tagOfByte tag))
  | _ => none

/-! ## Clamping (R38, R135) -/

/-- A value clamped to at most `top`. -/
def clampTop (top v : Nat) : Nat := min top v

/-- A coefficient, a gain or a talkback gain (R38). -/
def clampLevel (v : Nat) : Nat := clampTop 32768 v

/-- A duck (R38). -/
def clampDuck (v : Nat) : Nat := clampTop 8192 v

/-- A pad (R38). -/
def clampPad (v : Nat) : Nat := clampTop 6 v

/-- A tone amplitude (R38). -/
def clampAmplitude (v : Nat) : Nat := clampTop 8388607 v

/-- An activity threshold (R38): 0 is stored as 1. -/
def clampThreshold (v : Nat) : Nat := max 1 (clampTop 8388607 v)

/-- A cadence period (R135). -/
def clampPeriod (v : Nat) : Nat := max 2 (clampTop 30000 v)

/-- A cadence on-time, judged against the period as stored (R135). -/
def clampOnTime (period v : Nat) : Nat := if v < period then v else period - 1

/-- OK, or ADJUSTED when a value was clamped (R38). -/
def okUnlessClamped (unchanged : Bool) : ResultCode := if unchanged then .ok else .adjusted

/-! ## Codes in events and responses (R179, R180) -/

/-- A port state in a descriptor: SCREEN 1, HOLD 2, AIR 3; as PORT QUERY reports it, IDLE 0 and OUT_OF_SERVICE 4. -/
def portStateCode : PortState → Nat
  | .idle => 0
  | .screen => 1
  | .hold => 2
  | .air => 3
  | .outOfService => 4

/-- A station state in the order of STATUS. -/
def stationCode : StationName → Nat
  | .starting => 0
  | .running => 1
  | .withdrawing => 2
  | .closing => 3
  | .withdrawn => 4
  | .conflict => 5
  | .untimed => 6

/-- A group: A 0, B 1. -/
def groupCode : Group → Nat
  | .a => 0
  | .b => 1

/-- A closing cause: NORMAL 0, FORCED 1. -/
def closingCode : ClosingCause → Nat
  | .normal => 0
  | .forced => 1

/-- A reset cause: POWER 0, PIN 1, COMMAND 2. -/
def resetCauseCode : ResetCause → Nat
  | .power => 0
  | .pin => 1
  | .command => 2

/-- A claim status: HELD 0, WAITING 1, UNHEARD 2. -/
def claimCode : ClaimStatus → Nat
  | .held => 0
  | .waiting => 1
  | .unheard => 2

/-- A threshold choice: LOW 0, MID 1, HIGH 2, SET 3. -/
def choiceCode : ThresholdChoice → Nat
  | .low => 0
  | .mid => 1
  | .high => 2
  | .set => 3

/-- A result code (R179). -/
def resultByte : ResultCode → Byte
  | .ok => 0
  | .adjusted => 1
  | .refused => 2
  | .conflict => 3
  | .full => 4
  | .notFound => 5
  | .badArgument => 6
  | .unknown => 7

/-- An event record's six bytes as READ EVENT returns them (R179): kind, sequence, subject, detail. -/
def eventBytes (r : EventRecord) : List Byte :=
  let lay (kind subject : Nat) (detail : List Byte) : List Byte :=
    be1 kind ++ be2 r.sequence.toNat ++ be1 subject ++ detail
  match r.event with
  | .lanePresent lane third => lay 1 lane.val (be2 third.toNat)
  | .laneLost lane previous => lay 2 lane.val (be2 previous.toNat)
  | .laneWithdrawn lane previous => lay 3 lane.val (be2 previous.toNat)
  | .laneConflict lane cause => lay 4 lane.val (be1 (match cause with | .listen => 0 | .echo => 1) ++ [0])
  | .strobeLost state => lay 5 0 (be1 (stationCode state) ++ [0])
  | .strobeBack state => lay 6 0 (be1 (stationCode state) ++ [0])
  | .stationRunning first => lay 7 0 (be2 first.toNat)
  | .claimGained mix party => lay 8 (tagByte mix).toNat [tagByte party, 0]
  | .claimLost mix party entered =>
      lay 9 (tagByte mix).toNat (tagByte party :: be1 (match entered with | .held => 0 | .waiting => 0 | .unheard => 1))
  | .claimDropped port mix => lay 10 port.val [tagByte mix, 0]
  | .partyActive port state => lay 11 port.val (be1 (portStateCode state) ++ [0])
  | .cancelMiss port mix cause =>
      lay 12 port.val (tagByte mix :: be1 (match cause with | .clipped => 0 | .unrecorded => 1 | .incomplete => 2))
  | .groupFault group moved => lay 13 (groupCode group) (be1 moved ++ [0])
  | .groupClear group out => lay 14 (groupCode group) (be1 out ++ [0])
  | .withdrawDenied held => lay 15 0 (be1 held ++ [0])
  | .withdrawDone cause finals => lay 16 0 (be1 (closingCode cause) ++ be1 finals)
  | .testDone lane result matched =>
      lay 17 lane.val
        (be1 (match result with | .pass => 0 | .mismatch => 1 | .noEcho => 2 | .aborted => 3) ++ be1 matched)

end Sys2Proof.Machine
end

