-- ==== Sys2Proof/Machine/Ops.lean ====
section
/-! DEFINITION. The named operations over the state that the commands share: updates of one port, lane or mix, the
event queue, changes of port and station state, and resets. -/

namespace Sys2Proof.Machine

/-! ## Named updates of the state -/

/-- One port changed. -/
def State.updPort (s : State) (p : Fin 8) (f : Port → Port) : State := { s with ports := upd s.ports p f }

/-- All ports changed, each by its number. -/
def State.mapPorts (s : State) (f : Fin 8 → Port → Port) : State :=
  { s with ports := tab fun p => f p (s.ports.get p) }

/-- One lane changed. -/
def State.updLane (s : State) (l : Fin 16) (f : Lane → Lane) : State := { s with lanes := upd s.lanes l f }

/-- All lanes changed, each by its index. -/
def State.mapLanes (s : State) (f : Fin 16 → Lane → Lane) : State :=
  { s with lanes := tab fun l => f l (s.lanes.get l) }

/-- One mix changed. -/
def State.updMix (s : State) (m : Fin 4) (f : Mix → Mix) : State := { s with mixes := upd s.mixes m f }

/-- All mixes changed, each by its number. -/
def State.mapMixes (s : State) (f : Fin 4 → Mix → Mix) : State :=
  { s with mixes := tab fun m => f m (s.mixes.get m) }

/-- The station state replaced. -/
def State.withStation (s : State) (st : Station) : State := { s with station := st }

/-- The control link changed. -/
def State.updLink (s : State) (f : Link → Link) : State := { s with link := f s.link }

/-! ## What the state says -/

/-- A reset of any kind holds (R166). -/
def State.inReset (s : State) : Bool := s.resets.power || s.resets.pin || s.resets.command

/-- The name of the station state. -/
def Station.name : Station → StationName
  | .starting _ _ => .starting
  | .running => .running
  | .withdrawing _ => .withdrawing
  | .closing _ _ => .closing
  | .withdrawn _ => .withdrawn
  | .conflict => .conflict
  | .untimed => .untimed

/-- The name of the station state of the part. -/
def State.stationName (s : State) : StationName := s.station.name

/-- The station is RUNNING or WITHDRAWING: it sends NORMAL frames, updates its claims and builds returns (R6, R90,
R117). -/
def State.active (s : State) : Bool :=
  match s.station with
  | .running => true
  | .withdrawing _ => true
  | _ => false

/-- The port is in SCREEN, HOLD or AIR: published, measured and served (R52, R65, R117). -/
def Port.served (port : Port) : Bool :=
  match port.state with
  | .screen => true
  | .hold => true
  | .air => true
  | _ => false

/-- A tag of the own station (Tags). -/
def State.own (s : State) (channel : Fin 16) : Tag := { station := s.stationNumber, channel := channel }

/-- The tag of an own port. -/
def State.portTag (s : State) (p : Fin 8) : Tag := s.own (portChannel p)

/-- The tag of an own mix. -/
def State.mixTag (s : State) (m : Fin 4) : Tag := s.own (mixChannel m)

/-- The directory's entry under a tag (R23). -/
def State.entry (s : State) (tag : Tag) : Option Entry := (s.directory.get tag.station).get tag.channel

/-- The minus set of a port: its own tag and its extras (R105). -/
def State.minusSet (s : State) (p : Fin 8) : List Tag := s.portTag p :: (s.ports.get p).extras

/-- The recorded level of a group (R51). -/
def State.level (s : State) (g : Group) : Bool :=
  match g with
  | .a => s.levelA
  | .b => s.levelB

/-- The ports of a group (R51). -/
def portsOf (g : Group) : List (Fin 8) := (List.finRange 8).filter fun p => groupOfPort p == g

/-- How many of some ports are OUT_OF_SERVICE. -/
def State.outOfService (s : State) (ports : List (Fin 8)) : Nat :=
  (ports.filter fun p => (s.ports.get p).state == .outOfService).length

/-- How many own ports have a holder (R144). -/
def State.heldPorts (s : State) : Nat := ((List.finRange 8).filter fun p => (s.ports.get p).holder.isSome).length

/-- ATTN_N is asserted exactly while the event queue holds a record (R173). -/
def State.attention (s : State) : Bool := !s.events.isEmpty

/-- The withdrawing flag is set in WITHDRAWING only (R141). -/
def State.withdrawingFlag (s : State) : Bool :=
  match s.station with
  | .withdrawing _ => true
  | _ => false

/-! ## The event queue (R168 to R170) -/

/-- An event is raised: its record joins the tail, or is discarded and the overflow mark set (R168, R169). -/
def State.raise (s : State) (e : Event) : State :=
  if s.events.length < 32 then { s with events := s.events ++ [{ event := e, sequence := s.sequence }] }
  else { s with overflow := true }

/-- The head of the k-th of some chains taken off. -/
def takeHead : List (List Event) → Nat → Option (Event × List (List Event))
  | [], _ => none
  | [] :: rest, k => (takeHead rest k).map fun r => (r.1, [] :: r.2)
  | (e :: chain) :: rest, 0 => some (e, chain :: rest)
  | (e :: chain) :: rest, k + 1 => (takeHead rest k).map fun r => (r.1, (e :: chain) :: r.2)

/-- One order of the events of several chains that keeps each chain's own order: at each place the head of a chain
is chosen, `pick` saying which (R170). -/
def interleave (pick : Nat → Nat) : Nat → Nat → List (List Event) → List Event
  | 0, _, _ => []
  | fuel + 1, place, chains =>
    match chains.filter fun c => !c.isEmpty with
    | [] => []
    | [chain] => chain
    | several =>
      match takeHead several (pick place % several.length) with
      | some (e, rest) => e :: interleave pick fuel (place + 1) rest
      | none => []

/-- The events raised at one moment, in an order that no rule fixes but for the order within each chain: a free
value of the part (R170; log entry 7). -/
def State.order (s : State) (chains : List (List Event)) : List Event :=
  interleave (Config.eventOrder s.freeCount) (chains.map List.length).sum 0 chains

/-- All the events of one moment are raised (R168 to R170). -/
def State.raiseAll (s : State) (chains : List (List Event)) : State :=
  let raised := (s.order chains).foldl State.raise s
  { raised with freeCount := s.freeCount + 1 }

/-! ## Port states (R55) -/

/-- The level monitor's reset values (R55). -/
def Port.resetMonitor (port : Port) : Port := { port with peak := 0, activity := false, quiet := 0, armed := false }

/-- The holder and pending queue emptied (R97 to R99). -/
def Port.emptyClaims (port : Port) : Port := { port with holder := none, queue := [] }

/-- The leaving-AIR rule (R96): the holder, if any, goes to the head of the queue, whose tail is dropped if it was
full. -/
def Port.leaveAir (port : Port) : Port :=
  match port.holder with
  | some h => { port with holder := none, queue := (h :: port.queue).take 4 }
  | none => port

/-- A change of port state with its effects on the claim unit, the cue unit and the level monitor (R55). The new
state is another than the present one. -/
def Port.changeState (port : Port) (new : PortState) : Port :=
  match new with
  | .idle => { (port.emptyClaims.resetMonitor) with state := .idle, talkback := false }
  | .outOfService => { (port.emptyClaims.resetMonitor) with state := .outOfService, talkback := false }
  | .screen =>
    let p := if port.state = .air then port.leaveAir else port
    let p := if port.state = .idle then p.resetMonitor else p
    { p with state := .screen }
  | .hold =>
    let p := if port.state = .air then port.leaveAir else port
    let p := if port.state = .idle then p.resetMonitor else p
    { p with state := .hold, counter := 0 }
  | .air =>
    let p := if port.state = .idle then port.resetMonitor else port
    { p with state := .air }

/-! ## Entries to station states -/

/-- Every output buffer set to sixteen zeros (R117). -/
def State.silence (s : State) : State := { s with output := Vector.replicate 8 Block.zero }

/-- Every own port's holder and pending queue emptied (R99). -/
def State.emptyAllClaims (s : State) : State := s.mapPorts fun _ port => port.emptyClaims

/-- Entry to CONFLICT (R20), but for the event and the silence of the returns: LOUT is released, the claims are
emptied and a withdrawal or closing in progress is dropped. -/
def State.enterConflict (s : State) : State :=
  { (s.emptyAllClaims.withStation .conflict) with lout := .released }

/-- Entry to CLOSING (R146), but for the silence of the returns: cause and FINAL count, the ports not
OUT_OF_SERVICE to IDLE (R58), every claim emptied (R99), talkback off on every port (R131), every mix OFF (R77). -/
def State.enterClosing (s : State) (cause : ClosingCause) : State :=
  let ported := s.mapPorts fun _ port =>
    let moved := if port.state = .outOfService ∨ port.state = .idle then port else port.changeState .idle
    { moved.emptyClaims with talkback := false }
  (ported.mapMixes fun _ mix => { mix with live := false }).withStation (.closing cause 0)

/-- Entry to UNTIMED (R21): LOUT released, every receive record ABSENT with its final mark clear, the directory and
the history emptied, every claim emptied, the returns silent. The frames of the block and the capture buffers go too
(R21, R178; log entry 15), and the kept withdrawing flags (R149; log entry 25). -/
def State.enterUntimed (s : State) : State :=
  let laned := s.mapLanes fun _ lane =>
    { lane with frame := none, receive := .absent, finalMark := false, withdrawing := false }
  { (laned.emptyAllClaims.silence.withStation .untimed) with
    lout := .released
    sent := none
    directory := Vector.replicate 16 (Vector.replicate 16 none)
    history := []
    capture := Vector.replicate 12 Block.zero
    adout := Vector.replicate 16 0 }

/-! ## Resets (R18, R166, R167) -/

/-- What the beginning of a reset does at once (R18, R117, R167, R173, R178; log entry 12): LOUT and CDOUT
released, frames in reception closed, the request and response on the link lost, the event queue emptied, the
buffers and ADOUT zero. -/
def State.beginReset (s : State) : State :=
  { ((s.mapLanes fun _ lane => { lane with receiving := false }).silence) with
    lout := .released
    sent := none
    link := { s.link with state := .deselected, cdout := .released, resetArmed := false }
    events := []
    overflow := false
    capture := Vector.replicate 12 Block.zero
    position := 0
    adout := Vector.replicate 16 0 }

/-- The end of a reset (R4, R18, R156, R166, R167): every field at its reset value, the straps read, the reset's
end the strobe monitor's reference, the link DESELECTED or BARRED by CSEL_N. The queue of commands, the free-value
counter, CSEL_N and what the receivers follow since the reset began stand (log entry 13). -/
def State.endReset (s : State) (cause : ResetCause) (fin : ResetEnd) : State :=
  { State.reset with
    pending := s.pending
    freeCount := s.freeCount
    monitor := { condition := .timed, reference := some fin.instant, missed := 0, goodRun := 0 }
    stationNumber := fin.straps.toFin
    resetCause := cause
    lanes := tab fun l => { Lane.reset with receiving := (s.lanes.get l).receiving }
    link := { state := if s.link.selected then .barred else .deselected
              selected := s.link.selected, cdout := .released, cutCount := 0, resetArmed := false } }

/-- A reset of a kind begins to hold. Resets that overlap make one reset (R166), so only the first does what the
beginning of a reset does. A power-on reset ends a command reset's hold (R166; log entry 14). -/
def State.holdReset (s : State) (cause : ResetCause) : State :=
  let begun := if s.inReset then s else s.beginReset
  match cause with
  | .power => { begun with resets := { begun.resets with power := true, command := false } }
  | .pin => { begun with resets := { begun.resets with pin := true } }
  | .command => { begun with resets := { begun.resets with command := true } }

/-- A reset of a kind ceases to hold; the part comes out of reset when none holds (R166). -/
def State.releaseReset (s : State) (cause : ResetCause) (fin : ResetEnd) : State :=
  let resets :=
    match cause with
    | .power => { s.resets with power := false }
    | .pin => { s.resets with pin := false }
    | .command => { s.resets with command := false }
  let freed := { s with resets := resets }
  if freed.inReset then freed else freed.endReset cause fin

end Sys2Proof.Machine
end

