-- ==== Sys2Proof/Machine/Flags.lean ====
section
/-! DEFINITION. The flags the part computes: clip flag, activity bit, arming, and the echo verdict's count. -/

namespace Sys2Proof.Machine

/-- The clip flag of a composed block: some position's sum was changed by the saturation (R44). -/
def clipFlag (sums wide : Block) : Bool := decide (0 < changedCount sums wide)

/-- The activity bit of a measured block (R65): a peak equal to the threshold is active. -/
def activityBit (peak threshold : Nat) : Bool := decide (threshold ≤ peak)

/-- The quiet count after a measured block (R66). -/
def quietAfter (activity : Bool) (quiet : Nat) : Nat := if activity then 0 else min 600 (quiet + 1)

/-- The armed flag after a measured block (R66): an active block disarms, the six-hundredth quiet block arms. -/
def armedAfter (activity : Bool) (quiet : Nat) : Bool := !activity && decide (600 ≤ quietAfter activity quiet)

/-- Whether a measured block gives notice (R67): active, in SCREEN or HOLD, notice on, armed before the block. -/
def givesNotice (port : Port) (activity : Bool) : Bool :=
  activity && (port.state == .screen || port.state == .hold) && port.notice && port.armed

end Sys2Proof.Machine
end

