-- ==== Sys2Proof/Machine/Format.lean ====
section
/-! DEFINITION. The lane frame (spec/11_formats.md): checks, layout, and what a receiver reads from it. -/

namespace Sys2Proof.Machine

/-! ## The checks (R177) -/

/-- One message bit taken into a check's register (R177). -/
def crcBit {w : Nat} (generator register : BitVec w) (bit : Bool) : BitVec w :=
  let shifted := register <<< 1
  if register.msb != bit then shifted ^^^ generator else shifted

/-- One byte, its bits most significant first (R177). -/
def crcByte {w : Nat} (generator register : BitVec w) (b : Byte) : BitVec w :=
  [7, 6, 5, 4, 3, 2, 1, 0].foldl (fun r i => crcBit generator r (b.getLsbD i)) register

/-- A check over bytes (R177). -/
def crc {w : Nat} (generator start : BitVec w) (bytes : List Byte) : BitVec w :=
  bytes.foldl (crcByte generator) start

/-- The header check (R177). -/
def headerCheck (bytes : List Byte) : BitVec 16 := crc 0x1021 0xFFFF bytes

/-- The frame check (R177). -/
def frameCheck (bytes : List Byte) : BitVec 32 := crc 0x04C11DB7 0xFFFFFFFF bytes

/-! ## Laying a frame out (R175) -/

/-- A presence map's sixteen-bit value: bit c is set when channel c is shown (R175). -/
def mapValue (shown : List (Fin 16)) : Nat := (shown.map fun c => 2 ^ c.val).sum

/-- What a frame carries besides its station number and sequence (R7). -/
structure FrameContent where
  /-- Its kind: 1 NORMAL, 2 FINAL, 3 TEST. -/
  kind : Nat
  /-- The shown channels, ascending. -/
  shown : List (Fin 16)
  /-- The withdrawing flag. -/
  withdrawing : Bool
  /-- The descriptors' bytes, one descriptor per shown channel. -/
  descriptors : List (List Byte)
  /-- The wants, mix tag and party tag. -/
  wants : List (Tag × Tag)
  /-- The composition records. -/
  records : List CompRecord
  /-- The samples, one block per shown channel. -/
  samples : List Block
deriving DecidableEq, Repr

/-- A composition record's bytes (R175). -/
def recordBytes (r : CompRecord) : List Byte :=
  be1 r.channel.val ++ be1 r.terms.length ++ be1 r.stamps.length ++ flagByte r.clip
    ++ r.stamps.flatMap (fun st => be2 st.2.toNat)
    ++ r.terms.flatMap (fun t => tagByte t.1 :: 0 :: be2 t.2)

/-- The bytes between the header and the frame check. -/
def bodyBytes (c : FrameContent) : List Byte :=
  c.descriptors.flatten
    ++ c.wants.flatMap (fun w => [tagByte w.1, tagByte w.2])
    ++ c.records.flatMap recordBytes
    ++ c.samples.flatMap (fun b => b.toList.flatMap be4Signed)

/-- A frame's header without its check, bytes 0 to 13 (R175). -/
def headerBytes (station : Fin 16) (sequence : Seq) (c : FrameContent) (length : Nat) : List Byte :=
  be1 station.val ++ be1 c.kind ++ be2 sequence.toNat ++ be2 (mapValue c.shown) ++ flagByte c.withdrawing
    ++ be1 c.wants.length ++ be1 c.records.length ++ [0] ++ be2 length ++ [0, 0]

/-- A frame's bytes, the two checks placed (R175, R177). -/
def frameBytes (station : Fin 16) (sequence : Seq) (c : FrameContent) : List Byte :=
  let body := bodyBytes c
  let header := headerBytes station sequence c (16 + body.length + 4)
  let checked := header ++ be2 (headerCheck header).toNat ++ body
  checked ++ be4 (frameCheck checked).toNat

/-! ## Reading a frame -/

/-- The byte at an offset, 0 beyond the end. -/
def byteAt (bytes : List Byte) (i : Nat) : Byte := bytes.getD i 0

/-- The two-byte value at an offset. -/
def nat2At (bytes : List Byte) (i : Nat) : Nat := nat2 (byteAt bytes i) (byteAt bytes (i + 1))

/-- The frame length a header states (R175). -/
def lengthField (bytes : List Byte) : Nat := nat2At bytes 10

/-- The presence map a header states (R175). -/
def mapField (bytes : List Byte) : BitVec 16 := BitVec.ofNat 16 (nat2At bytes 4)

/-- The channels a map shows, ascending. -/
def shownChannels (map : BitVec 16) : List (Fin 16) := (List.finRange 16).filter fun c => map.getLsbD c.val

/-- A composition record as received, before any judgement of its values (R176). -/
structure RawRecord where
  /-- Byte 0. -/
  channel : Byte
  /-- The stamps, without lanes (R175). -/
  stamps : List Seq
  /-- The listed terms. -/
  terms : List (Tag × Nat)
  /-- Bit 0 of the record flags. -/
  clip : Bool
deriving DecidableEq, Repr

/-- `n` stamps from the bytes, and the bytes after them. -/
def readStamps : Nat → List Byte → Option (List Seq × List Byte)
  | 0, bytes => some ([], bytes)
  | n + 1, a :: b :: rest => (readStamps n rest).map fun r => (BitVec.ofNat 16 (nat2 a b) :: r.1, r.2)
  | _ + 1, _ => none

/-- `n` included terms from the bytes, and the bytes after them: tag, pad, coefficient (R175). -/
def readTerms : Nat → List Byte → Option (List (Tag × Nat) × List Byte)
  | 0, bytes => some ([], bytes)
  | n + 1, tag :: _ :: a :: b :: rest => (readTerms n rest).map fun r => ((tagOfByte tag, nat2 a b) :: r.1, r.2)
  | _ + 1, _ => none

/-- `n` composition records, each one's length taken from its own bytes 1 and 2 (R176), and the bytes after them;
none where the walk runs past the bytes. -/
def readRecords : Nat → List Byte → Option (List RawRecord × List Byte)
  | 0, bytes => some ([], bytes)
  | n + 1, channel :: t :: s :: flags :: rest =>
    (readStamps s.toNat rest).bind fun stamps =>
      (readTerms t.toNat stamps.2).bind fun terms =>
        (readRecords n terms.2).map fun more =>
          ({ channel := channel, stamps := stamps.1, terms := terms.1, clip := flags.getLsbD 0 } :: more.1, more.2)
  | _ + 1, _ => none

/-- `n` wants from the bytes: mix tag, party tag (R175). -/
def readWants : Nat → List Byte → List (Tag × Tag)
  | n + 1, a :: b :: rest => (tagOfByte a, tagOfByte b) :: readWants n rest
  | _, _ => []

/-- A frame's sections, as the walk of R176 finds them. -/
structure Sections where
  /-- The shown channels, ascending. -/
  shown : List (Fin 16)
  /-- The descriptors' bytes. -/
  descriptors : List Byte
  /-- The wants. -/
  wants : List (Tag × Tag)
  /-- The composition records. -/
  records : List RawRecord
  /-- The samples' bytes. -/
  samples : List Byte
deriving DecidableEq, Repr

/-- The walk of R176 over the bytes of a frame of its stated length: it succeeds when the sections the header
announces end exactly 4 bytes before the length. -/
def walk (bytes : List Byte) : Option Sections :=
  let shown := shownChannels (mapField bytes)
  let n := shown.length
  let w := (byteAt bytes 7).toNat
  let afterWants := bytes.drop (16 + 4 * n + 2 * w)
  if bytes.length < 16 + 4 * n + 2 * w then none
  else
    (readRecords (byteAt bytes 8).toNat afterWants).bind fun r =>
      if r.2.length = 64 * n + 4 then
        some { shown := shown
               descriptors := (bytes.drop 16).take (4 * n)
               wants := readWants w (bytes.drop (16 + 4 * n))
               records := r.1
               samples := r.2.take (64 * n) }
      else none

/-! ## The six tests (R9) -/

/-- Test 1: the header check over the header is correct. -/
def test1 (bytes : List Byte) : Bool :=
  decide (16 ≤ bytes.length) && (bytes.drop 14).take 2 == be2 (headerCheck (bytes.take 14)).toNat

/-- Test 2: the length is in range, the frame completed within the slot, and the sections fit (R9, R176). -/
def test2 (bytes : List Byte) (ending : FrameEnding) : Bool :=
  let length := lengthField bytes
  ending == .atLength && decide (20 ≤ length ∧ length ≤ 2304 ∧ length ≤ bytes.length)
    && decide ((byteAt bytes 7).toNat ≤ 64 ∧ (byteAt bytes 8).toNat ≤ 4)
    && (walk (bytes.take length)).isSome

/-- Test 3: the frame check over the whole frame is correct. -/
def test3 (bytes : List Byte) : Bool :=
  let length := lengthField bytes
  (bytes.drop (length - 4)).take 4 == be4 (frameCheck (bytes.take (length - 4))).toNat

/-- Test 4: the station number in the header equals the index of the lane. -/
def test4 (lane : Fin 16) (bytes : List Byte) : Bool := decide ((byteAt bytes 0).toNat = lane.val)

/-- Test 5: the kind is NORMAL, FINAL or TEST. -/
def test5 (bytes : List Byte) : Bool := decide (1 ≤ (byteAt bytes 1).toNat ∧ (byteAt bytes 1).toNat ≤ 3)

/-- Test 6: the kind is NORMAL or FINAL. -/
def test6 (bytes : List Byte) : Bool := decide ((byteAt bytes 1).toNat ≤ 2)

/-- A completed frame checked in the order of R9; its bytes are those up to its length, where that is trusted. -/
def checkFrame (lane : Fin 16) (bytes : List Byte) (ending : FrameEnding) : Received :=
  if !test1 bytes then { bytes := bytes, cls := .checkFailure }
  else if !test2 bytes ending then { bytes := bytes, cls := .checkFailure }
  else
    let frame := bytes.take (lengthField bytes)
    if !test3 frame then { bytes := frame, cls := .checkFailure }
    else if !test4 lane frame then { bytes := frame, cls := .stationMismatch }
    else if !test5 frame then { bytes := frame, cls := .checkFailure }
    else if !test6 frame then { bytes := frame, cls := .testFrame }
    else { bytes := frame, cls := .good }

/-! ## A valid frame, as the blocks read it -/

/-- A valid frame: NORMAL or FINAL. -/
structure Frame where
  /-- FINAL rather than NORMAL. -/
  final : Bool
  /-- Its sequence. -/
  sequence : Seq
  /-- The withdrawing flag of its header. -/
  withdrawing : Bool
  /-- Its sections. -/
  sections : Sections
deriving DecidableEq, Repr

/-- What a frame that has passed the tests carries. -/
def readFrame (bytes : List Byte) : Frame :=
  { final := (byteAt bytes 1).toNat == 2
    sequence := BitVec.ofNat 16 (nat2At bytes 2)
    withdrawing := (byteAt bytes 6).getLsbD 0
    sections := (walk bytes).getD { shown := [], descriptors := [], wants := [], records := [], samples := [] } }

/-- The wants a frame is heard with: its want list, none in a FINAL frame (R91; log entry 18). -/
def Frame.wants (f : Frame) : List (Tag × Tag) := if f.final then [] else f.sections.wants

/-- The samples of the k-th shown channel. -/
def sampleAt (samples : List Byte) (k : Nat) (n : Fin 16) : Int :=
  let i := 64 * k + 4 * n.val
  int4 (byteAt samples i) (byteAt samples (i + 1)) (byteAt samples (i + 2)) (byteAt samples (i + 3))

/-- The sixteen samples of the k-th shown channel. -/
def blockAt (samples : List Byte) (k : Nat) : Block := tab fun n => sampleAt samples k n

/-! ## Well-formed channels (R26, R176) -/

/-- Whether every sample of a block lies in the range of the kind (R26). -/
def samplesInRange (kind : Kind) (block : Block) : Bool :=
  block.toList.all fun v => if kind = .mix then wideInRange v else sampleInRange v

/-- The stations of a list of terms, ascending, each once. -/
def stationsOf (terms : List (Tag × Nat)) : List (Fin 16) :=
  (List.finRange 16).filter fun s => terms.any fun t => t.1.station == s

/-- Whether a received record's values are possible (R26, R176). -/
def recordWellFormed (r : RawRecord) : Bool :=
  decide (r.terms.length ≤ 48)
    && decide ((r.terms.filter fun t => t.1.kind == .party).length ≤ 16)
    && r.terms.all (fun t => t.1.kind != .mix)
    && decide ((r.terms.map (·.1)).Nodup)
    && r.terms.all (fun t => decide (t.2 ≤ 32768))
    && r.stamps.length == (stationsOf r.terms).length

/-- The composition record a received one stands for: the lane of the i-th stamp is the i-th lowest station among
the stations of the terms (R175). -/
def compRecordOf (channel : Fin 16) (r : RawRecord) : CompRecord :=
  { channel := channel, stamps := (stationsOf r.terms).zip r.stamps, terms := r.terms, clip := r.clip }

/-- The body of a PARTY channel from its descriptor, when well formed (R24, R26, R175). -/
def partyBody (state flags holder pendingCount : Byte) : Option EntryBody :=
  let named : Option PortState :=
    match state.toNat with
    | 1 => some .screen
    | 2 => some .hold
    | 3 => some .air
    | _ => none
  let holderTag := if flags.getLsbD 1 then some (tagOfByte holder) else none
  let holderFits := holderTag.all fun t => t.kind == .mix
  match named with
  | some st =>
    if holderFits && decide (pendingCount.toNat ≤ 4) then
      some (.party st (flags.getLsbD 0) holderTag pendingCount.toNat)
    else none
  | none => none

/-- The body of a MIX channel: exactly one record names it, and that record is well formed (R26, R176). -/
def mixBody (channel : Fin 16) (records : List RawRecord) : Option EntryBody :=
  match records.filter fun r => r.channel.toNat == channel.val with
  | [r] => if recordWellFormed r then some (.mix (compRecordOf channel r)) else none
  | _ => none

/-- The entry a valid frame gives a channel: none when the map does not show it or it is not well formed (R25,
R26). A FINAL frame gives none (R25). -/
def entryOf (f : Frame) (channel : Fin 16) : Option Entry :=
  if f.final || !(f.sections.shown.contains channel) then none
  else
    let k := (f.sections.shown.filter fun c => c.val < channel.val).length
    let samples := blockAt f.sections.samples k
    let d := f.sections.descriptors
    let body : Option EntryBody :=
      match kindOfChannel channel with
      | .party => partyBody (byteAt d (4 * k)) (byteAt d (4 * k + 1)) (byteAt d (4 * k + 2)) (byteAt d (4 * k + 3))
      | .feed => some .feed
      | .mix => mixBody channel f.sections.records
    if samplesInRange (kindOfChannel channel) samples then
      body.map fun b => { sequence := f.sequence, fresh := true, age := 0, samples := samples, body := b }
    else none

end Sys2Proof.Machine
end

