-- ==== Sys2Proof/Machine/Lanes.lean ====
section
/-! DEFINITION. The lane interface at a taken strobe (spec/01_lanes_and_the_block.md): the echo check, the station
state, the lane receive states. A pass of the strobe's work answers the state and the events it raises, in chains
whose inner order a rule fixes. -/

namespace Sys2Proof.Machine

/-- What a pass of the block work leaves: the state, and the events it raises. -/
structure Work where
  /-- The state after the pass. -/
  st : State
  /-- The events, in chains; the events of one chain are raised in its order (R170). -/
  chains : List (List Event)
deriving DecidableEq, Repr

/-- A further pass, on the state the passes before it left. -/
def Work.andThen (w : Work) (pass : State → Work) : Work :=
  { st := (pass w.st).st, chains := w.chains ++ (pass w.st).chains }

/-- A pass that raises no event. -/
def Work.silent (s : State) : Work := { st := s, chains := [] }

/-! ## The echo check (R16) -/

/-- The verdict on the echo of the frame sent at the previous taken strobe. -/
inductive Verdict where
  | notJudged
  | matched
  | mismatched
deriving DecidableEq, Repr

/-- Whether the echo of a frame is the frame itself: a good frame of the own lane with the very bytes sent (R16). -/
def echoMatches (sent : List Byte) (own : Option Received) : Bool :=
  match own with
  | some r => r.cls == .good && r.bytes == sent
  | none => false

/-- The echo check's verdict at a taken strobe (R16). It is judged in RUNNING, WITHDRAWING and CLOSING, if a frame
was sent at the previous taken strobe; not at the strobe at which CLOSING completes to WITHDRAWN. -/
def State.verdict (s : State) : Verdict :=
  let judge : Verdict :=
    match s.sent with
    | some frame => if echoMatches frame (s.lanes.get s.stationNumber).frame then .matched else .mismatched
    | none => .notJudged
  match s.station with
  | .running => judge
  | .withdrawing _ => judge
  | .closing _ finals => if finals < 8 then judge else .notJudged
  | _ => .notJudged

/-! ## The station state (R16, R19, R20, R147) -/

/-- The echo check's count and its move to CONFLICT (R16, R20). -/
def echoPass (verdict : Verdict) (s : State) : Work :=
  match verdict with
  | .notJudged => Work.silent s
  | .matched => Work.silent { s with echoMismatch := 0 }
  | .mismatched =>
    let counted := { s with echoMismatch := s.echoMismatch + 1 }
    if 3 ≤ counted.echoMismatch then
      { st := counted.enterConflict, chains := [[.laneConflict s.stationNumber .echo]] }
    else Work.silent counted

/-- The listen window (R19): its first strobe begins it; at a later one a frame start noted on the own lane leads to
CONFLICT, and otherwise the quiet count goes up, 16 leading to RUNNING. -/
def listenPass (s : State) : Work :=
  match s.station with
  | .starting none heard => Work.silent (s.withStation (.starting (some 0) heard))
  | .starting (some _) true =>
    { st := s.enterConflict, chains := [[.laneConflict s.stationNumber .listen]] }
  | .starting (some quiet) false =>
    if 16 ≤ quiet + 1 then { st := s.withStation .running, chains := [[.stationRunning s.sequence]] }
    else Work.silent (s.withStation (.starting (some (quiet + 1)) false))
  | _ => Work.silent s

/-- The end of CLOSING (R147): with the FINAL count already 8 the station enters WITHDRAWN and releases LOUT. -/
def closedPass (s : State) : Work :=
  match s.station with
  | .closing cause finals =>
    if finals < 8 then Work.silent s
    else { st := { (s.withStation (.withdrawn none)) with lout := .released }, chains := [[.withdrawDone cause finals]] }
  | _ => Work.silent s

/-! ## The frames of the block and the receive states (R8, R11 to R14, R17, R149) -/

/-- The frame of the block of a lane, as the receive states take it. -/
inductive BlockFrame where
  | missing
  | invalid
  | valid (frame : Frame)
deriving DecidableEq, Repr

/-- The frame of the block of a lane: valid when it passed the six tests and, on the own lane, when it is the
matched echo of a frame the station sent (R9, R17). -/
def State.blockFrame (s : State) (verdict : Verdict) (lane : Fin 16) : BlockFrame :=
  match (s.lanes.get lane).frame with
  | none => .missing
  | some r =>
    if r.cls == .good && (lane != s.stationNumber || verdict == .matched) then .valid (readFrame r.bytes)
    else .invalid

/-- The receive state after a valid frame (R11, R12). -/
def receiveValid (receive : Receive) (sequence : Seq) : Receive :=
  match receive with
  | .absent => .acquiring sequence 1
  | .acquiring previous acquired =>
    if sequence = previous + 1 then
      if 3 ≤ acquired + 1 then .present sequence else .acquiring sequence (acquired + 1)
    else .acquiring sequence 1
  | .present _ => .present sequence
  | .lapsed _ _ => .present sequence

/-- The receive state after a missing or invalid frame, R13 apart (R11, R12). -/
def receiveMiss (receive : Receive) : Receive :=
  match receive with
  | .absent => .absent
  | .acquiring _ _ => .absent
  | .present previous => .lapsed previous 1
  | .lapsed previous misses => if 8 ≤ misses + 1 then .absent else .lapsed previous (misses + 1)

/-- Whether a valid frame slips (R12): its lane is PRESENT and its sequence is not the previous one plus 1. -/
def slipsOn (receive : Receive) (sequence : Seq) : Bool :=
  match receive with
  | .present previous => sequence != previous + 1
  | _ => false

/-- The receive state of a lane after the frame of its block (R11 to R13). -/
def receiveAfter (lane : Lane) (frame : BlockFrame) : Receive :=
  match frame with
  | .valid f => receiveValid lane.receive f.sequence
  | .invalid => receiveMiss lane.receive
  | .missing => if lane.finalMark then .absent else receiveMiss lane.receive

/-- A lane's record after the frame of its block (R11 to R13, R149). -/
def laneAfter (lane : Lane) (frame : BlockFrame) : Lane :=
  let receive := receiveAfter lane frame
  match frame with
  | .valid f =>
    { lane with
      receive := receive
      finalMark := f.final
      withdrawing := if f.final then lane.withdrawing else f.withdrawing
      slips := addCount lane.slips (if slipsOn lane.receive f.sequence then 1 else 0) }
  | .invalid => { lane with receive := receive, withdrawing := lane.withdrawing && receive != .absent }
  | .missing =>
    { lane with receive := receive, finalMark := false, withdrawing := lane.withdrawing && receive != .absent }

/-- The event a lane raises at the frame of its block (R11 to R13). -/
def laneEvent (l : Fin 16) (lane : Lane) (frame : BlockFrame) : List Event :=
  match frame, lane.receive, receiveAfter lane frame with
  | .valid f, .acquiring _ _, .present _ => [.lanePresent l f.sequence]
  | .missing, .present previous, .absent => [.laneWithdrawn l previous]
  | .missing, .lapsed previous _, .absent =>
    if lane.finalMark then [.laneWithdrawn l previous] else [.laneLost l previous]
  | .invalid, .lapsed previous _, .absent => [.laneLost l previous]
  | _, _, _ => []

/-- Whether a lane goes ABSENT at this strobe (R15). -/
def goesAbsent (lane : Lane) (frame : BlockFrame) : Bool :=
  lane.receive != .absent && receiveAfter lane frame == .absent

/-- The lane receive states of all sixteen lanes (R11 to R14), from each lane's frame of the block. -/
def lanePass (frames : Vector BlockFrame 16) (s : State) : Work :=
  { st := s.mapLanes fun l lane => laneAfter lane (frames.get l)
    chains := (List.finRange 16).map fun l => laneEvent l (s.lanes.get l) (frames.get l) }

end Sys2Proof.Machine
end

