-- ==== Sys2Proof/Machine/Directory.lean ====
section
/-! DEFINITION. The source directory at a taken strobe (spec/02_the_source_directory.md). -/

namespace Sys2Proof.Machine

/-- An entry not written at this strobe (R27): not fresh, its age up by 1. -/
def Entry.aged (e : Entry) : Entry := { e with fresh := false, age := addCount e.age 1 }

/-- The entry under a channel of a lane after the delivery of the lane's frame (R25 to R28): from a valid frame, as
that frame gives it; removed when the lane goes ABSENT; otherwise kept and aged. -/
def entryAfter (frame : BlockFrame) (absent : Bool) (channel : Fin 16) (entry : Option Entry) : Option Entry :=
  match frame with
  | .valid f => entryOf f channel
  | _ => if absent then none else entry.map Entry.aged

/-- Delivery, ageing and removal over all sixteen lanes (R25, R27, R28). `absent` says which lanes go ABSENT at this
strobe (R15). -/
def directoryPass (frames : Vector BlockFrame 16) (absent : Vector Bool 16) (s : State) : Work :=
  Work.silent
    { s with
      directory := tab fun l => tab fun c =>
        entryAfter (frames.get l) (absent.get l) c ((s.directory.get l).get c) }

/-- The entry under a tag when it may be used for audio: it exists and is fresh (R30). -/
def State.freshEntry (s : State) (tag : Tag) : Option Entry :=
  match s.entry tag with
  | some e => if e.fresh then some e else none
  | none => none

/-- The holder that a PARTY entry names (R24). -/
def Entry.holder (e : Entry) : Option Tag :=
  match e.body with
  | .party _ _ holder _ => holder
  | _ => none

end Sys2Proof.Machine
end

