-- ==== Sys2Proof/Machine/Claims.lean ====
section
/-! DEFINITION. The claim unit's update at a taken strobe (spec/06_air_claims.md). -/

namespace Sys2Proof.Machine

/-- The mixes of lane `l`'s station that want an own port, as the lane's frame of the block is heard: none when the
lane is unheard at this strobe (R91). -/
def heardWants (frames : Vector BlockFrame 16) (portTag : Tag) (l : Fin 16) : Option (List Tag) :=
  match frames.get l with
  | .valid f =>
    some ((f.wants.filter fun w => w.1.station == l && w.1.kind == .mix && w.2 == portTag).map (·.1))
  | _ => none

/-- Whether a mix's lane is heard at this strobe without the mix's want for the port (R93, R94). -/
def letsGo (heard : Fin 16 → Option (List Tag)) (mix : Tag) : Bool :=
  match heard mix.station with
  | some wants => !wants.contains mix
  | none => false

/-- Lane absence (R92): the holder and the pending entries of the lanes that go ABSENT are cleared. -/
def claimAbsence (absent : Vector Bool 16) (port : Port) : Port :=
  { port with
    holder := port.holder.filter fun h => !absent.get h.station
    queue := port.queue.filter fun m => !absent.get m.station }

/-- The holder that lane absence clears (R92, R104). -/
def droppedHolder (absent : Vector Bool 16) (port : Port) : Option Tag :=
  port.holder.filter fun h => absent.get h.station

/-- The release (R93). -/
def claimRelease (heard : Fin 16 → Option (List Tag)) (port : Port) : Port :=
  { port with holder := port.holder.filter fun h => !letsGo heard h }

/-- The removal (R94). -/
def claimRemoval (heard : Fin 16 → Option (List Tag)) (port : Port) : Port :=
  { port with queue := port.queue.filter fun m => !letsGo heard m }

/-- The mix tags of all stations in ascending lane index, then ascending mix channel (R94). -/
def mixTagsInOrder : List Tag :=
  (List.finRange 16).flatMap fun l => (List.finRange 4).map fun m => { station := l, channel := mixChannel m }

/-- The new wants for a port at this strobe, in the order in which they are appended (R94). -/
def newWants (heard : Fin 16 → Option (List Tag)) (port : Port) : List Tag :=
  mixTagsInOrder.filter fun m =>
    (match heard m.station with
     | some wants => wants.contains m
     | none => false)
      && port.holder != some m && !port.queue.contains m

/-- The queueing (R94): in SCREEN, HOLD and AIR each new want is appended while the queue has fewer than 4 entries. -/
def claimQueueing (heard : Fin 16 → Option (List Tag)) (port : Port) : Port :=
  if port.served then { port with queue := port.queue ++ (newWants heard port).take (4 - port.queue.length) } else port

/-- The grant (R95): in AIR, on a RUNNING station, a port with no holder gives the claim to the head of its queue. -/
def claimGrant (running : Bool) (port : Port) : Port :=
  match port.holder, port.queue with
  | none, head :: rest =>
    if running && port.state == .air then { port with holder := some head, queue := rest } else port
  | _, _ => port

/-- One port's update: lane absence, release, removal, queueing, grant (R90, 6.2). -/
def claimUpdate (heard : Fin 16 → Option (List Tag)) (absent : Vector Bool 16) (running : Bool) (port : Port) : Port :=
  claimGrant running (claimQueueing heard (claimRemoval heard (claimRelease heard (claimAbsence absent port))))

/-- The claim update of all eight ports (R89, R90): at a strobe at which the station is RUNNING or WITHDRAWING, with
no grant in WITHDRAWING (R100). The CLAIM_DROPPED events go in ascending port order (R92). -/
def claimPass (frames : Vector BlockFrame 16) (absent : Vector Bool 16) (s : State) : Work :=
  if s.active then
    { st := s.mapPorts fun p port =>
        claimUpdate (heardWants frames (s.portTag p)) absent (s.station == .running) port
      chains := [(List.finRange 8).filterMap fun p =>
        (droppedHolder absent (s.ports.get p)).map fun h => Event.claimDropped p h] }
  else Work.silent s

end Sys2Proof.Machine
end

