-- ==== Sys2Proof/Machine/PortWork.lean ====
section
/-! DEFINITION. The port controller at a taken strobe (spec/04_party_ports.md): the fault inputs and the level
monitor. -/

namespace Sys2Proof.Machine

/-- A group's recorded level replaced. -/
def State.setLevel (s : State) (g : Group) (level : Bool) : State :=
  match g with
  | .a => { s with levelA := level }
  | .b => { s with levelB := level }

/-- A group's fault input sampled (R59 to R61): a change to asserted forces the group's ports OUT_OF_SERVICE, a
change to negated moves none; each raises its event. -/
def faultPass (g : Group) (sample : Bool) (s : State) : Work :=
  if sample = s.level g then Work.silent s
  else if sample then
    { st := (s.setLevel g true).mapPorts fun p port =>
        if groupOfPort p = g ∧ port.state ≠ .outOfService then port.changeState .outOfService else port
      chains := [[.groupFault g (4 - s.outOfService (portsOf g))]] }
  else
    { st := s.setLevel g false, chains := [[.groupClear g (s.outOfService (portsOf g))]] }

/-- A port measured over the block captured in its channel (R65, R66). -/
def measured (block : Block) (port : Port) : Port :=
  let peak := peakOf block
  let activity := activityBit peak port.threshold
  { port with
    peak := peak
    activity := activity
    quiet := quietAfter activity port.quiet
    armed := armedAfter activity port.quiet }

/-- The capture channel of a party port (4.1). -/
def State.captured (s : State) (p : Fin 8) : Block := s.capture.get ⟨p.val, by omega⟩

/-- The level monitor (R65 to R67): each port in SCREEN, HOLD or AIR is measured; an armed port in SCREEN or HOLD
with its notice on raises PARTY_ACTIVE at an active block. -/
def measurePass (s : State) : Work :=
  { st := s.mapPorts fun p port => if port.served then measured (s.captured p) port else port
    chains := (List.finRange 8).map fun p =>
      let port := s.ports.get p
      if port.served && givesNotice port (activityBit (peakOf (s.captured p)) port.threshold) then
        [Event.partyActive p port.state]
      else [] }

end Sys2Proof.Machine
end

