-- ==== Sys2Proof/Machine/MixWork.lean ====
section
/-! DEFINITION. The mix composer at a taken strobe (spec/05_mixes.md): composition, records, wants, claim status. -/

namespace Sys2Proof.Machine

/-- The entry from which a term is included in a mix's block, if it is (R79): fresh, and for a PARTY term naming the
mix as holder. -/
def State.includedEntry (s : State) (mixTag : Tag) (term : Term) : Option Entry :=
  (s.freshEntry term.tag).filter fun e => term.tag.kind != .party || e.holder == some mixTag

/-- The included terms of a mix's block, in term-list order, each with the entry it is taken from (R79, R81). -/
def State.included (s : State) (m : Fin 4) : List (Term × Entry) :=
  (s.mixes.get m).terms.filterMap fun t => (s.includedEntry (s.mixTag m) t).map fun e => (t, e)

/-- The exact sum of the included terms' rounded products at each position (R43). -/
def mixSums (included : List (Term × Entry)) : Block :=
  tab fun n => accumulate (included.map fun te => roundedProduct (te.2.samples.get n) te.1.coefficient)

/-- The wide samples of a mix's block: the sums saturated to 28 bits (R43). -/
def mixSamples (included : List (Term × Entry)) : Block := tab fun n => saturate28 ((mixSums included).get n)

/-- The stamps of a block (R81, R82): for each lane that supplied an included term, ascending, the sequence of the
entries it was taken from. -/
def mixStamps (included : List (Term × Entry)) : List (Fin 16 × Seq) :=
  (List.finRange 16).filterMap fun l =>
    (included.find? fun te => te.1.tag.station == l).map fun te => (l, te.2.sequence)

/-- The composition record of a mix's block (R81). -/
def mixRecord (m : Fin 4) (included : List (Term × Entry)) : CompRecord :=
  { channel := mixChannel m
    stamps := mixStamps included
    terms := included.map fun te => (te.1.tag, te.1.coefficient)
    clip := clipFlag (mixSums included) (mixSamples included) }

/-- The LIVE mixes, in mix order. -/
def State.liveMixes (s : State) : List (Fin 4) := (List.finRange 4).filter fun m => (s.mixes.get m).live

/-- Composition of the LIVE mixes on a RUNNING or WITHDRAWING station: what each mix keeps of its last block (R77,
R78, R80). The samples and records go into the frame of the same strobe. -/
def composePass (s : State) : Work :=
  if s.active then
    Work.silent (s.mapMixes fun m mix =>
      if mix.live then
        { mix with
          lastIncluded := (s.included m).length
          lastClip := (mixRecord m (s.included m)).clip }
      else mix)
  else Work.silent s

/-- The wants of a NORMAL frame (R83): one for each PARTY term of each LIVE mix, by mix and then by term-list order. -/
def State.wants (s : State) : List (Tag × Tag) :=
  s.liveMixes.flatMap fun m =>
    ((s.mixes.get m).terms.filter fun t => t.tag.kind == .party).map fun t => (s.mixTag m, t.tag)

/-- The claim status of a PARTY term after the strobe's delivery (R85). -/
def State.statusAfter (s : State) (mixTag : Tag) (tag : Tag) (status : ClaimStatus) : ClaimStatus :=
  match s.entry tag with
  | none => .unheard
  | some e => if e.fresh then (if e.holder = some mixTag then .held else .waiting) else status

/-- A term with its claim status decided (R85); a FEED term has none. -/
def State.decided (s : State) (mixTag : Tag) (t : Term) : Term :=
  { t with status := t.status.map (s.statusAfter mixTag t.tag) }

/-- The event of a change of claim status (R86, R87). -/
def statusEvent (mixTag party : Tag) (before after : Option ClaimStatus) : List Event :=
  match before, after with
  | some .held, some .waiting => [.claimLost mixTag party .waiting]
  | some .held, some .unheard => [.claimLost mixTag party .unheard]
  | some .waiting, some .held => [.claimGained mixTag party]
  | some .unheard, some .held => [.claimGained mixTag party]
  | _, _ => []

/-- The claim status of every PARTY term of every mix, LIVE or OFF (R85 to R87). -/
def statusPass (s : State) : Work :=
  { st := s.mapMixes fun m mix => { mix with terms := mix.terms.map (s.decided (s.mixTag m)) }
    chains := (List.finRange 4).flatMap fun m => (s.mixes.get m).terms.map fun t =>
      statusEvent (s.mixTag m) t.tag t.status (s.decided (s.mixTag m) t).status }

end Sys2Proof.Machine
end

