-- ==== Sys2Proof/Machine/ReturnWork.lean ====
section
/-! DEFINITION. The return builder and the cue unit at a taken strobe (spec/07_returns_and_cancellation.md,
spec/08_talkback_and_hold_cadence.md). -/

namespace Sys2Proof.Machine

/-! ## The outbound history (R114, R116) -/

/-- What a lookup in the outbound history finds (R116). -/
inductive Lookup where
  | found (samples : Block)
  | unrecorded
  | incomplete
deriving DecidableEq, Repr

/-- A lookup by sequence and channel (R116). -/
def lookup (history : List HistoryRecord) (sequence : Seq) (channel : Fin 16) : Lookup :=
  match history.find? fun r => r.sequence == sequence with
  | none => .unrecorded
  | some r =>
    match r.channels.find? fun c => c.1 == channel with
    | none => .incomplete
    | some c => .found c.2

/-- A new record placed in the history by the table of R114. DESIGN CHOICE (log entry 29): R115 and R151 say that the
first NORMAL frame after REJOIN empties the history; where no frame was sent since the newest record (CLOSING cut by a
strobe loss at FINAL count 0, R148), its sequence is the next one, and the table's second row adds it. -/
def placeRecord (history : List HistoryRecord) (new : HistoryRecord) : List HistoryRecord :=
  match history.getLast? with
  | none => [new]
  | some newest =>
    if new.sequence = newest.sequence + 1 then
      let longer := history ++ [new]
      longer.drop (longer.length - 8)
    else [new]

/-! ## Contributions (R118 to R122) -/

/-- What an entry of a recipe yields in one block. -/
inductive Contribution where
  | gap
  | miss (cause : MissCause)
  | samples (block : Block)
deriving DecidableEq, Repr

/-- A block weighted by a level, position by position (R40, R47). -/
def weighted (block : Block) (level : Nat) : Block := tab fun n => roundedProduct (block.get n) level

/-- A direct entry's contribution (R119). -/
def State.directContribution (s : State) (tag : Tag) (gain : Nat) : Contribution :=
  match s.freshEntry tag with
  | some e => .samples (weighted e.samples gain)
  | none => .gap

/-- The listed terms of a record whose tags are in a minus set (R120). -/
def minusTerms (record : CompRecord) (minus : List Tag) : List (Tag × Nat) :=
  record.terms.filter fun t => minus.contains t.1

/-- The record's stamp of a lane (R121). -/
def stampOf (record : CompRecord) (lane : Fin 16) : Option Seq :=
  (record.stamps.find? fun st => st.1 == lane).map (·.2)

/-- The recorded samples of every minus term under a stamp, with the coefficient listed; none when one of them is
incomplete (R121). -/
def recordedTerms (history : List HistoryRecord) (stamp : Seq) : List (Tag × Nat) → Option (List (Block × Nat))
  | [] => some []
  | t :: rest =>
    match lookup history stamp t.1.channel with
    | .found samples => (recordedTerms history stamp rest).map fun more => (samples, t.2) :: more
    | _ => none

/-- The cleaned value at each position (R45, R46): the wide sample less the exact sum of the recomputed minus
terms. -/
def cleaned (wide : Block) (recorded : List (Block × Nat)) : Block :=
  tab fun n => wide.get n - (recorded.map fun r => roundedProduct (r.1.get n) r.2).sum

/-- A fresh mix entry's cleaned block, or the cause of its cancel miss (R120, R121). -/
def cleanedOf (history : List HistoryRecord) (lane : Fin 16) (minus : List Tag) (wide : Block) (record : CompRecord) :
    MissCause ⊕ Block :=
  match minusTerms record minus with
  | [] => .inr wide
  | t :: rest =>
    if record.clip then .inl .clipped
    else
      match stampOf record lane with
      | none => .inl .unrecorded
      | some stamp =>
        if history.any fun r => r.sequence == stamp then
          match recordedTerms history stamp (t :: rest) with
          | some recorded => .inr (cleaned wide recorded)
          | none => .inl .incomplete
        else .inl .unrecorded

/-- A mix entry's contribution (R120 to R122). -/
def State.mixContribution (s : State) (minus : List Tag) (tag : Tag) (gain : Nat) : Contribution :=
  match s.freshEntry tag with
  | some e =>
    match e.body with
    | .mix record =>
      match cleanedOf s.history s.stationNumber minus e.samples record with
      | .inl cause => .miss cause
      | .inr block => .samples (weighted block gain)
    | _ => .gap
  | none => .gap

/-- An entry's effective gain: its stored gain, or its ducked gain while talkback is on (R118, R132). -/
def effectiveGain (port : Port) (gain : Nat) : Nat := if port.talkback then duckedGain gain port.duck else gain

/-- An entry's contribution, by its kind (R106, R118). -/
def State.contribution (s : State) (p : Fin 8) (entry : RecipeEntry) : Contribution :=
  let gain := effectiveGain (s.ports.get p) entry.gain
  if entry.tag.kind = .mix then s.mixContribution (s.minusSet p) entry.tag gain
  else s.directContribution entry.tag gain

/-- A contribution's value at a position: a gap and a cancel miss contribute 0 (R47, R122). -/
def Contribution.at (c : Contribution) (n : Fin 16) : Int :=
  match c with
  | .samples block => block.get n
  | _ => 0

/-- The recipe that a port's state names (R118). -/
def Port.recipe (port : Port) : List RecipeEntry :=
  match port.state with
  | .screen => port.screenRecipe
  | .hold => port.holdRecipe
  | .air => port.airRecipe
  | _ => []

/-! ## The cue unit (R132, R133, R136 to R138) -/

/-- The talkback term (R133): the fresh source's samples at the talkback gain, which is not ducked. -/
def State.talkbackTerm (s : State) (port : Port) : Block :=
  match port.source with
  | none => Block.zero
  | some tag =>
    match s.freshEntry tag with
    | some e => weighted e.samples port.talkGain
    | none => Block.zero

/-- The hold tone of a block (R137): a square wave while the counter is below the on-time. -/
def holdTone (port : Port) : Block :=
  tab fun n =>
    if port.counter < port.onTime then (if n.val < 8 then (port.amplitude : Int) else -(port.amplitude : Int)) else 0

/-- What the cue unit adds to a built return (R138): the talkback term, which suppresses the tone, or in HOLD the
tone. None where nothing is added. -/
def State.cueAddition (s : State) (port : Port) : Option Block :=
  if port.talkback then some (s.talkbackTerm port)
  else if port.state = .hold then some (holdTone port)
  else none

/-- The cadence counter after a block in HOLD (R136). -/
def counterAfter (port : Port) : Nat := if port.counter + 1 = port.period then 0 else port.counter + 1

/-- The cadence of every port in HOLD advances, whatever the station state (R136). -/
def cadencePass (s : State) : Work :=
  Work.silent (s.mapPorts fun _ port => if port.state = .hold then { port with counter := counterAfter port } else port)

/-! ## Building the returns (R117, R122 to R124) -/

/-- The contributions of a port's recipe, in recipe order (R118). -/
def State.contributions (s : State) (p : Fin 8) : List Contribution :=
  (s.ports.get p).recipe.map fun e => s.contribution p e

/-- The return sum at each position (R48): the contributions in recipe order, then the cue unit's addition. -/
def State.returnSum (s : State) (p : Fin 8) : Block :=
  tab fun n =>
    accumulate ((s.contributions p).map (fun c => c.at n)
      ++ (s.cueAddition (s.ports.get p)).toList.map fun b => b.get n)

/-- The return sum padded (R49). -/
def State.paddedSum (s : State) (p : Fin 8) : Block := tab fun n => padded (s.ports.get p).pad ((s.returnSum p).get n)

/-- A built return: the padded sum saturated to 24 bits (R50, R124). -/
def State.builtReturn (s : State) (p : Fin 8) : Block := tab fun n => saturate24 ((s.paddedSum p).get n)

/-- Whether a port's return is built at this strobe (R117). -/
def State.builds (s : State) (p : Fin 8) : Bool := s.active && (s.ports.get p).served

/-- The cancel misses of a port's recipe, in recipe order: the mix entry and the cause (R121, R122). -/
def State.cancelMisses (s : State) (p : Fin 8) : List (Tag × MissCause) :=
  (s.ports.get p).recipe.filterMap fun e =>
    match s.contribution p e with
    | .miss cause => some (e.tag, cause)
    | _ => none

/-- A served port's counts and miss-reported flag after its return is built (R122, R124). -/
def State.countReturn (s : State) (p : Fin 8) (port : Port) : Port :=
  { port with
    misses := addCount port.misses (s.cancelMisses p).length
    saturations := addCount port.saturations (changedCount (s.paddedSum p) (s.builtReturn p))
    missReported := port.missReported || !(s.cancelMisses p).isEmpty }

/-- The CANCEL_MISS event of a port at this strobe (R122): for the first miss in recipe order, with the flag clear. -/
def State.missEvent (s : State) (p : Fin 8) : List Event :=
  match s.cancelMisses p with
  | [] => []
  | (tag, cause) :: _ => if (s.ports.get p).missReported then [] else [.cancelMiss p tag cause]

/-- The returns of the eight ports, built or silent, written to the output buffers (R117, R124). -/
def returnPass (s : State) : Work :=
  { st := { (s.mapPorts fun p port => if s.builds p then s.countReturn p port else port) with
            output := tab fun p => if s.builds p then s.builtReturn p else Block.zero }
    chains := (List.finRange 8).map fun p => if s.builds p then s.missEvent p else [] }

end Sys2Proof.Machine
end

