-- ==== Sys2Proof/Machine/Transmit.lean ====
section
/-! DEFINITION. The withdrawal, the lane test and the lane transmitter at a taken strobe
(spec/09_withdrawal_and_lane_tests.md; R5 to R7, R113). -/

namespace Sys2Proof.Machine

/-- The withdrawal check after the claim update (R144): with no holder the station enters CLOSING with cause NORMAL;
with one, the timer goes up, and at 30,000 the withdrawal is denied. -/
def withdrawalPass (s : State) : Work :=
  match s.station with
  | .withdrawing timer =>
    if s.heldPorts = 0 then Work.silent (s.enterClosing .normal)
    else if timer + 1 < 30000 then Work.silent (s.withStation (.withdrawing (timer + 1)))
    else { st := s.withStation .running, chains := [[.withdrawDenied s.heldPorts]] }
  | _ => Work.silent s

/-! ## The lane test (R152, R153) -/

/-- The verdict on the echo of a TEST frame (R153): missing, matching, or differing. -/
inductive TestVerdict where
  | missing
  | matching
  | differing
deriving DecidableEq, Repr

/-- The judgement of a TEST frame's echo (R153): it matches when it passes the first five tests, its kind is TEST,
and its bytes are those sent. -/
def testVerdict (sent : Option (List Byte)) (own : Option Received) : TestVerdict :=
  match own with
  | none => .missing
  | some r => if r.cls == .testFrame && sent == some r.bytes then .matching else .differing

/-- The test record after a judgement (R153). -/
def LaneTest.judge (test : LaneTest) (verdict : TestVerdict) : LaneTest :=
  match verdict with
  | .missing => { test with judged := test.judged + 1, missing := test.missing + 1 }
  | .matching => { test with judged := test.judged + 1 }
  | .differing => { test with judged := test.judged + 1, differing := test.differing + 1 }

/-- Matched echoes so far (R153, R154). -/
def LaneTest.matched (test : LaneTest) : Nat := test.judged - test.missing - test.differing

/-- The result of a completed test (R153). -/
def LaneTest.result (test : LaneTest) : TestResult :=
  if 1 ≤ test.missing then .noEcho else if 1 ≤ test.differing then .mismatch else .pass

/-- The judgement of the echo of the last TEST frame, and the end of the test at the fourth (R153). -/
def testPass (s : State) : Work :=
  match s.station with
  | .withdrawn (some test) =>
    if test.judged < test.sent then
      let after := test.judge (testVerdict s.sent (s.lanes.get s.stationNumber).frame)
      if 4 ≤ after.judged then
        { st := { (s.withStation (.withdrawn none)) with lout := .released }
          chains := [[.testDone s.stationNumber after.result after.matched]] }
      else Work.silent (s.withStation (.withdrawn (some after)))
    else Work.silent s
  | _ => Work.silent s

/-! ## The frames (R6, R7, R113, R147, R152) -/

/-- The channels a NORMAL frame shows: the ports in SCREEN, HOLD or AIR, all four feeds, the LIVE mixes (R7). -/
def State.shown (s : State) : List (Fin 16) :=
  (List.finRange 16).filter fun c =>
    match kindOfChannel c with
    | .party => (s.ports.get ⟨c.val % 8, by omega⟩).served
    | .feed => true
    | .mix => (s.mixes.get ⟨c.val % 4, by omega⟩).live

/-- The own PARTY and FEED channels shown, which the outbound history records (R113). -/
def State.recorded (s : State) : List (Fin 16 × Block) :=
  s.shown.filterMap fun c => if h : c.val < 12 then some (c, s.capture.get ⟨c.val, h⟩) else none

/-- A channel's descriptor (R101, R175): a party's state, activity bit, holder and pending count; zeros otherwise. -/
def State.descriptor (s : State) (c : Fin 16) : List Byte :=
  match kindOfChannel c with
  | .party =>
    let port := s.ports.get ⟨c.val % 8, by omega⟩
    be1 (portStateCode port.state)
      ++ be1 ((if port.activity then 1 else 0) + (if port.holder.isSome then 2 else 0))
      ++ [(port.holder.map tagByte).getD 0] ++ be1 port.queue.length
  | _ => [0, 0, 0, 0]

/-- A shown channel's samples: captured for PARTY and FEED, composed for MIX (R7). -/
def State.channelSamples (s : State) (c : Fin 16) : Block :=
  if h : c.val < 12 then s.capture.get ⟨c.val, h⟩ else mixSamples (s.included ⟨c.val % 4, by omega⟩)

/-- The content of a NORMAL frame (R7). -/
def State.normalContent (s : State) : FrameContent :=
  { kind := 1
    shown := s.shown
    withdrawing := s.withdrawingFlag
    descriptors := s.shown.map s.descriptor
    wants := s.wants
    records := s.liveMixes.map fun m => mixRecord m (s.included m)
    samples := s.shown.map s.channelSamples }

/-- The content of a FINAL frame: a header only (R6, R147). -/
def finalContent : FrameContent :=
  { kind := 2, shown := [], withdrawing := false, descriptors := [], wants := [], records := [], samples := [] }

/-- The counting pattern of the i-th TEST frame (R152). -/
def testBlock (i : Nat) (c : Fin 16) : Block := tab fun n => 65536 * (i : Int) + 256 * (c.val : Int) + (n.val : Int)

/-- The content of the i-th TEST frame of a test: all sixteen channels, each with a descriptor of zeros (R152, R175).
DESIGN CHOICE (log entry 30): R101 says that TEST frames carry no descriptors, and the model follows R152 and R175. -/
def testContent (i : Nat) : FrameContent :=
  { kind := 3
    shown := List.finRange 16
    withdrawing := false
    descriptors := (List.finRange 16).map fun _ => [0, 0, 0, 0]
    wants := []
    records := []
    samples := (List.finRange 16).map (testBlock i) }

/-- The content of the frame that the station state sends at a strobe, if any (R6). -/
def State.frameContent (s : State) : Option FrameContent :=
  match s.station with
  | .running => some s.normalContent
  | .withdrawing _ => some s.normalContent
  | .closing _ _ => some finalContent
  | .withdrawn (some test) => some (testContent test.sent)
  | _ => none

/-- The station state after its frame is sent: the FINAL count and the test's frames sent go up (R147, R152). -/
def Station.afterSending (st : Station) : Station :=
  match st with
  | .closing cause finals => .closing cause (finals + 1)
  | .withdrawn (some test) => .withdrawn (some { test with sent := test.sent + 1 })
  | other => other

/-- The history after the strobe's frame (R113, R114): a NORMAL frame is recorded. -/
def State.historyAfter (s : State) : List HistoryRecord :=
  if s.active then placeRecord s.history { sequence := s.sequence, channels := s.recorded } else s.history

/-- The lane transmitter (R5, R6): the frame of the station state is sent with the counter's value, the counter
advances, and the frame is kept for its echo. With no frame to send, the counter holds. -/
def transmitPass (s : State) : Work :=
  match s.frameContent with
  | some content =>
    let frame := frameBytes s.stationNumber s.sequence content
    Work.silent
      { s with
        sent := some frame
        lout := .driven frame
        sequence := s.sequence + 1
        station := s.station.afterSending
        history := s.historyAfter }
  | none => Work.silent { s with sent := none }

end Sys2Proof.Machine
end

