-- ==== Sys2Proof/Machine/Strobe.lean ====
section
/-! DEFINITION. The block strobe: the strobe monitor, the work of a taken strobe, and the meanings of the commands
that are a strobe or a passage of time seen by the monitor (R1 to R3, R21, R22). -/

namespace Sys2Proof.Machine

/-! ## The strobe monitor (R2, R3) -/

/-- Whether a strobe is at the correct interval from the reference (R2): from 63/64 to 65/64 of a block. -/
def correctInterval (reference instant : Nat) : Bool :=
  decide (63 * Config.ticksPerBlock ≤ 64 * (instant - reference)
    ∧ 64 * (instant - reference) ≤ 65 * Config.ticksPerBlock)

/-- The good-run count after a strobe in LOST (R3). -/
def goodRunAfter (m : Monitor) (instant : Nat) : Nat :=
  match m.reference with
  | none => 0
  | some r => if correctInterval r instant then m.goodRun + 1 else 0

/-- The monitor after a strobe arrives (R2, R3). -/
def Monitor.strobe (m : Monitor) (instant : Nat) : Monitor :=
  match m.condition with
  | .timed => { m with missed := 0, reference := some instant }
  | .lost =>
    let run := goodRunAfter m instant
    if 4 ≤ run then { condition := .timed, reference := some instant, missed := 0, goodRun := 4 }
    else { m with reference := some instant, missed := 0, goodRun := run }

/-- Whether a strobe completes the monitor's run (R3). -/
def Monitor.returns (m : Monitor) (instant : Nat) : Bool :=
  m.condition == .lost && (m.strobe instant).condition == .timed

/-- The monitor notes a strobe; when it enters TIMED, STROBE_BACK is raised, and an UNTIMED station enters STARTING
(R3, R22). -/
def monitorPass (instant : Nat) (s : State) : Work :=
  let noted := { s with monitor := s.monitor.strobe instant }
  if s.monitor.returns instant then
    if s.station = .untimed then
      let back := { (noted.withStation (.starting none false)) with echoMismatch := 0 }
      { st := back, chains := [[.strobeBack .starting]] }
    else { st := noted, chains := [[.strobeBack s.stationName]] }
  else Work.silent noted

/-! ## The work of a taken strobe -/

/-- Which lanes go ABSENT at this strobe (R15). -/
def State.absentLanes (s : State) (frames : Vector BlockFrame 16) : Vector Bool 16 :=
  tab fun l => goesAbsent (s.lanes.get l) (frames.get l)

/-- The frames of the block of all lanes, under the echo check's verdict (R8, R17). -/
def State.blockFrames (s : State) (verdict : Verdict) : Vector BlockFrame 16 := tab fun l => s.blockFrame verdict l

/-- The end of the block: the capture buffers are handed over and filled anew from position 0, and the frames of the
block are used up (R8, R178). -/
def closeBlock (s : State) : Work :=
  Work.silent
    { (s.mapLanes fun _ lane => { lane with frame := none }) with
      capture := Vector.replicate 12 Block.zero, position := 0 }

/-- The work of a strobe that is taken (R1), in the order its rules force: fault inputs (R53, R60); echo check and
station state (R16, R19, R147); lane receive states (R11 to R14) and directory (R15, R25 to R28); claim update (R90)
and then the withdrawal (R144); level monitor (R65); claim status (R85); returns, from the history before this
strobe's frame (R116, R117), and cadence (R136); composition (R78); the lane test's judgement (R153); and the frame
(R6). -/
def strobeWork (inp : StrobeInput) (s : State) : Work :=
  let verdict := s.verdict
  let frames := s.blockFrames verdict
  let absent := s.absentLanes frames
  ((((((((((((((Work.silent s).andThen (faultPass .a inp.faultA)).andThen (faultPass .b inp.faultB)).andThen
    (echoPass verdict)).andThen listenPass).andThen closedPass).andThen (lanePass frames)).andThen
    (directoryPass frames absent)).andThen (claimPass frames absent)).andThen withdrawalPass).andThen
    measurePass).andThen statusPass).andThen returnPass).andThen cadencePass).andThen composePass
    |>.andThen testPass |>.andThen transmitPass |>.andThen closeBlock

/-- A strobe that arrives (R1): the monitor notes it and, unless the station is UNTIMED, the part takes it. -/
def strobeArrives (inp : StrobeInput) (s : State) : Work :=
  let noted := monitorPass inp.instant s
  if noted.st.station = .untimed then noted else noted.andThen (strobeWork inp)

/-- The state after a strobe: its events carry the sequence counter as it stands after the strobe's frame (R5,
R168) and are raised in an order no rule fixes (R170). A strobe that arrives in reset is not taken, and the monitor
starts anew at the reset's end (R1, R2). -/
def State.afterStrobe (s : State) (inp : StrobeInput) : State :=
  if s.inReset then s else (strobeArrives inp s).st.raiseAll (strobeArrives inp s).chains

/-- A row that names a threshold reached inside a strobe (log entry 3): the whole strobe, when the strobe is one at
which the threshold is reached; nothing otherwise. -/
def State.strobeWhen (s : State) (inp : StrobeInput) (due : State → State → Bool) : State :=
  if due s (s.afterStrobe inp) then s.afterStrobe inp else s

/-! ## Strobe loss (R2, R21, R148, R154) -/

/-- The station's part of a strobe loss (R20, R21, R148, R154), with the events in their fixed order (R170). -/
def lossPass (s : State) : Work :=
  let lost := Event.strobeLost s.stationName
  match s.station with
  | .starting _ _ => { st := s.enterUntimed, chains := [[lost]] }
  | .running => { st := s.enterUntimed, chains := [[lost]] }
  | .withdrawing _ => { st := s.enterUntimed, chains := [[lost]] }
  | .closing cause finals =>
    { st := { (s.withStation (.withdrawn none)) with lout := .released }
      chains := [[lost, .withdrawDone cause finals]] }
  | .withdrawn (some test) =>
    { st := { (s.withStation (.withdrawn none)) with lout := .released }
      chains := [[lost, .testDone s.stationNumber .aborted test.matched]] }
  | .withdrawn none => { st := s, chains := [[lost]] }
  | .conflict => { st := s, chains := [[lost]] }
  | .untimed => { st := s, chains := [[lost]] }

/-- An expected strobe is found missing (R2): the missed count goes up by 1, and the fourth leads to LOST, which
waits for a first strobe (R3). -/
def State.missStrobe (s : State) : State :=
  let missed := s.monitor.missed + 1
  if 4 ≤ missed then
    let lost := { s with monitor := { s.monitor with condition := .lost, reference := none, missed := 4 } }
    (lossPass lost).st.raiseAll (lossPass lost).chains
  else { s with monitor := { s.monitor with missed := missed } }

/-! ## The meanings -/

/-- BLOCK_STROBE (R1). -/
def execBlockStrobe (inp : StrobeInput) (s : State) : Host.Outcome State Fault Refusal := .next (s.afterStrobe inp)

/-- STROBE_MISSING (R2): in TIMED, 1/64 of a block has passed beyond an expected strobe instant with no strobe. -/
def execStrobeMissing (s : State) : Host.Outcome State Fault Refusal :=
  if !s.inReset && s.monitor.condition == .timed then .next s.missStrobe else .next s

/-- STROBE_LOSS (R2): the fourth expected strobe is found missing and the monitor enters LOST (log entry 3). -/
def execStrobeLoss (s : State) : Host.Outcome State Fault Refusal :=
  if !s.inReset && s.monitor.condition == .timed && s.monitor.missed == 3 then .next s.missStrobe else .next s

/-- GOOD_RUN_TIMEOUT (R3): in LOST, 65/64 of a block has passed after the reference with no strobe. -/
def execGoodRunTimeout (s : State) : Host.Outcome State Fault Refusal :=
  if !s.inReset && s.monitor.condition == .lost && s.monitor.reference.isSome then
    .next { s with monitor := { s.monitor with reference := none, goodRun := 0 } }
  else .next s

/-- STROBE_RUN_COMPLETE (R3): the strobe at which the good-run count reaches 4 (log entry 3). -/
def execStrobeRunComplete (inp : StrobeInput) (s : State) : Host.Outcome State Fault Refusal :=
  .next (s.strobeWhen inp fun before after =>
    before.monitor.condition == .lost && after.monitor.condition == .timed)

/-- ACQUIRE_COMPLETE (R11): the strobe at which a lane's acquire count reaches 3 and the lane becomes PRESENT (log
entry 3). -/
def execAcquireComplete (inp : StrobeInput) (lane : Fin 16) (s : State) : Host.Outcome State Fault Refusal :=
  .next (s.strobeWhen inp fun before after =>
    match (before.lanes.get lane).receive, (after.lanes.get lane).receive with
    | .acquiring _ _, .present _ => true
    | _, _ => false)

/-- MISS_LIMIT (R12): the strobe at which a LAPSED lane's miss count reaches 8 and the lane goes ABSENT (log entry
3); a lane that goes ABSENT by its final mark is none (R13). -/
def execMissLimit (inp : StrobeInput) (lane : Fin 16) (s : State) : Host.Outcome State Fault Refusal :=
  .next (s.strobeWhen inp fun before after =>
    match (before.lanes.get lane).receive, (after.lanes.get lane).receive with
    | .lapsed _ _, .absent => !((before.lanes.get lane).finalMark && (before.lanes.get lane).frame.isNone)
    | _, _ => false)

/-- LISTEN_COMPLETE (R19): the strobe at which the quiet count reaches 16 and the station enters RUNNING (log entry
3). -/
def execListenComplete (inp : StrobeInput) (s : State) : Host.Outcome State Fault Refusal :=
  .next (s.strobeWhen inp fun before after =>
    before.stationName == .starting && after.stationName == .running)

/-- ECHO_MISMATCH_LIMIT (R16): the strobe at which the echo mismatch count reaches 3 and the station enters CONFLICT
(log entry 3). -/
def execEchoMismatchLimit (inp : StrobeInput) (s : State) : Host.Outcome State Fault Refusal :=
  .next (s.strobeWhen inp fun before after =>
    before.stationName != .conflict && before.stationName != .starting && after.stationName == .conflict)

/-- QUIET_RUN_COMPLETE (R66): the strobe at which a measured port's quiet count reaches 600 and the port becomes
armed (log entry 3). -/
def execQuietRunComplete (inp : StrobeInput) (port : Fin 8) (s : State) : Host.Outcome State Fault Refusal :=
  .next (s.strobeWhen inp fun before after =>
    decide ((before.ports.get port).quiet < 600) && decide ((after.ports.get port).quiet = 600))

/-- WITHDRAWAL_TIMER_EXPIRY (R144): the strobe at which the withdrawal timer reaches 30,000 with a holder present
and the withdrawal is denied (log entry 3). -/
def execWithdrawalTimerExpiry (inp : StrobeInput) (s : State) : Host.Outcome State Fault Refusal :=
  .next (s.strobeWhen inp fun before after =>
    before.stationName == .withdrawing && after.stationName == .running)

/-- FINAL_COUNT_COMPLETE (R147): the strobe in CLOSING that finds the FINAL count already 8, at which the station
enters WITHDRAWN (log entry 3). -/
def execFinalCountComplete (inp : StrobeInput) (s : State) : Host.Outcome State Fault Refusal :=
  .next (s.strobeWhen inp fun before after =>
    before.stationName == .closing && after.stationName == .withdrawn)

/-- LANE_TEST_COMPLETE (R153): the strobe at which the fourth echo of a lane test is judged and the test ends (log
entry 3). -/
def execLaneTestComplete (inp : StrobeInput) (s : State) : Host.Outcome State Fault Refusal :=
  .next (s.strobeWhen inp fun before after =>
    match before.station, after.station with
    | .withdrawn (some _), .withdrawn none => true
    | _, _ => false)

end Sys2Proof.Machine
end

