-- ==== Sys2Proof/Machine/Reception.lean ====
section
/-! DEFINITION. What the lanes and the card audio port bring between strobes (R8 to R10, R18, R19, R178). -/

namespace Sys2Proof.Machine

/-- The own lane's frame start is noted for the listen check (R19): in STARTING, in which the station drives no frame
of its own (log entry 23). -/
def Station.noteStart (st : Station) : Station :=
  match st with
  | .starting quiet _ => .starting quiet true
  | other => other

/-- FRAME_START (R8, R19): a lane leaves idle and its receiver begins following a frame. A start during a reset is
followed but not noted: STARTING is entered at the reset's end (log entry 13). -/
def execFrameStart (lane : Fin 16) (s : State) : Host.Outcome State Fault Refusal :=
  if (s.lanes.get lane).receiving then .next s
  else
    let followed := s.updLane lane fun l => { l with receiving := true }
    if !s.inReset && lane == s.stationNumber then .next (followed.withStation s.station.noteStart)
    else .next followed

/-- A completed frame counted in its lane's statistics by its class (R10). -/
def Lane.count (lane : Lane) (cls : FrameClass) : Lane :=
  match cls with
  | .good => { lane with good := addCount lane.good 1 }
  | .checkFailure => { lane with checkFailures := addCount lane.checkFailures 1 }
  | .stationMismatch => { lane with stationMismatches := addCount lane.stationMismatches 1 }
  | .testFrame => { lane with testFrames := addCount lane.testFrames 1 }

/-- A lane whose frame has completed (R8 to R10): the frame is counted, and becomes the frame of the block unless no
frame is the frame of any block (R21). -/
def Lane.complete (lane : Lane) (frame : Received) (untimed : Bool) : Lane :=
  let counted := lane.count frame.cls
  { counted with receiving := false, frame := if untimed then counted.frame else some frame }

/-- FRAME_COMPLETE (R8, R9): the frame that a lane's receiver follows completes, with these bytes. One that completes
during a reset is closed and not counted (R18). -/
def execFrameComplete (lane : Fin 16) (bytes : List Byte) (ending : FrameEnding) (s : State) :
    Host.Outcome State Fault Refusal :=
  if !(s.lanes.get lane).receiving then .next s
  else if s.inReset then .next (s.updLane lane fun l => { l with receiving := false })
  else .next (s.updLane lane fun l => l.complete (checkFrame lane bytes ending) (s.station == .untimed))

/-- A slot's sample (R178): its first 24 bits, signed; the last 8 are ignored. -/
def slotSample (slot : BitVec 32) : Int := (slot.extractLsb' 8 24).toInt

/-- A sample's slot (R178): 24 bits, then 8 zeros. -/
def sampleSlot (sample : Int) : BitVec 32 := BitVec.ofInt 24 sample ++ (0 : BitVec 8)

/-- The slots sent in the sample frame of a position (R178): the eight returns, then zeros. -/
def State.playedSlots (s : State) (n : Fin 16) : Vector (BitVec 32) 16 :=
  tab fun slot => if h : slot.val < 8 then sampleSlot ((s.output.get ⟨slot.val, h⟩).get n) else 0

/-- The capture buffers with a sample frame stored at a position (R178). -/
def State.capturedSlots (s : State) (adin : Vector (BitVec 32) 16) (n : Fin 16) : Vector Block 12 :=
  tab fun channel =>
    upd (s.capture.get channel) n fun _ => slotSample (adin.get ⟨channel.val, by omega⟩)

/-- SAMPLE_FRAME (R178): at positions 0 to 15 the sample frame is stored and that position of the output buffers is
sent; beyond them and in UNTIMED, ADIN is ignored and zeros are sent. In reset ADOUT carries zeros. -/
def execSampleFrame (adin : Vector (BitVec 32) 16) (s : State) : Host.Outcome State Fault Refusal :=
  if s.inReset then .next s
  else if s.station = .untimed then .next { s with adout := Vector.replicate 16 0 }
  else if h : s.position < 16 then
    .next { s with
      capture := s.capturedSlots adin ⟨s.position, h⟩
      adout := s.playedSlots ⟨s.position, h⟩
      position := s.position + 1 }
  else .next { s with adout := Vector.replicate 16 0 }

end Sys2Proof.Machine
end

