-- ==== Sys2Proof/WellFormed.lean ====
section
/-! DEFINITION. Which commands a sender can put to the part. The meanings are total: they say what the part does
with an ill-formed command too, as far as its bytes reach. -/

namespace Sys2Proof

/-- A request message's argument length is one byte (R157). -/
def argsFit (args : List Byte) : Bool := decide (args.length ≤ 255)

/-- A request code that names no request (R179: codes 0 and 30 to 255). -/
def unknownCode (code : Byte) : Bool := code == 0 || decide (30 ≤ code.toNat)

/-- Well-formedness of a command: a request's arguments fit its length byte; the WITHDRAW rows are told apart by
the mode byte, FORCED alone being WITHDRAW_FORCED; an unknown request's code names no request; a received frame is
no longer than the slot, and is closed at the slot's end exactly when it has filled the slot. -/
def WellFormed : Instr → Bool
  | .blockStrobe _ => true
  | .strobeMissing => true
  | .strobeLoss => true
  | .goodRunTimeout => true
  | .strobeRunComplete _ => true
  | .frameStart _ => true
  | .frameComplete _ bytes .atSlotEnd => decide (bytes.length = 2304)
  | .frameComplete _ bytes .atLength => decide (bytes.length ≤ 2304)
  | .frameComplete _ bytes .cutOff => decide (bytes.length < 2304)
  | .acquireComplete _ _ => true
  | .missLimit _ _ => true
  | .listenComplete _ => true
  | .echoMismatchLimit _ => true
  | .quietRunComplete _ _ => true
  | .withdrawalTimerExpiry _ => true
  | .finalCountComplete _ => true
  | .laneTestComplete _ => true
  | .powerOnReset => true
  | .powerOnRelease _ => true
  | .resetPinAssert => true
  | .resetPinNegate _ => true
  | .commandResetBegin _ => true
  | .commandResetExpiry _ => true
  | .select _ => true
  | .deselect _ => true
  | .unknownRequest code args => unknownCode code && argsFit args
  | .status args => argsFit args
  | .stationReset args => argsFit args
  | .clearCounts args => argsFit args
  | .laneStats args => argsFit args
  | .readEvent args => argsFit args
  | .withdrawNormal args => argsFit args && args != [1]
  | .withdrawForced args => args == [1]
  | .rejoin args => argsFit args
  | .laneTest args => argsFit args
  | .directoryList args => argsFit args
  | .directoryQuery args => argsFit args
  | .setState args => argsFit args
  | .portClear args => argsFit args
  | .groupRestore args => argsFit args
  | .setMonitor args => argsFit args
  | .portQuery args => argsFit args
  | .setEntry args => argsFit args
  | .removeEntry args => argsFit args
  | .setMinus args => argsFit args
  | .setPad args => argsFit args
  | .setTalkback args => argsFit args
  | .talkbackOn args => argsFit args
  | .talkbackOff args => argsFit args
  | .setCadence args => argsFit args
  | .setTerm args => argsFit args
  | .removeTerm args => argsFit args
  | .clearMix args => argsFit args
  | .mixOn args => argsFit args
  | .mixOff args => argsFit args
  | .mixQuery args => argsFit args
  | .sampleFrame _ => true
  | .responseEnd => true

end Sys2Proof
end

