-- ==== Sys2Proof/Decode.lean ====
section
/-! DEFINITION. From words and request messages to commands. The opcode table gives no row any bits, so no table
word spells a command. A request message does: its code and its argument bytes (R157, R179). -/

namespace Sys2Proof

/-- The command a table word spells: none, since no row of spec/opcode_table.json has bits. -/
def decodeTableWord (_nbits _w : Nat) : Option Instr := none

/-- The request that a complete message names by its code (R179: a request's code is its place, from 1, in the
gathering table of Control Link), with its argument bytes. The two WITHDRAW rows share code 6 and are told apart by
the mode byte, NORMAL 0 and FORCED 1. Codes 0 and 30 to 255 name no request. -/
def commandOfMessage (code : Byte) (args : List Byte) : Instr :=
  match code.toNat with
  | 1 => .status args
  | 2 => .stationReset args
  | 3 => .clearCounts args
  | 4 => .laneStats args
  | 5 => .readEvent args
  | 6 => if args = [1] then .withdrawForced args else .withdrawNormal args
  | 7 => .rejoin args
  | 8 => .laneTest args
  | 9 => .directoryList args
  | 10 => .directoryQuery args
  | 11 => .setState args
  | 12 => .portClear args
  | 13 => .groupRestore args
  | 14 => .setMonitor args
  | 15 => .portQuery args
  | 16 => .setEntry args
  | 17 => .removeEntry args
  | 18 => .setMinus args
  | 19 => .setPad args
  | 20 => .setTalkback args
  | 21 => .talkbackOn args
  | 22 => .talkbackOff args
  | 23 => .setCadence args
  | 24 => .setTerm args
  | 25 => .removeTerm args
  | 26 => .clearMix args
  | 27 => .mixOn args
  | 28 => .mixOff args
  | 29 => .mixQuery args
  | _ => .unknownRequest code args

/-- The code and the argument bytes of a request command; none for a command that is no request. -/
def requestOf : Instr → Option (Byte × List Byte)
  | .unknownRequest code args => some (code, args)
  | .status args => some (1, args)
  | .stationReset args => some (2, args)
  | .clearCounts args => some (3, args)
  | .laneStats args => some (4, args)
  | .readEvent args => some (5, args)
  | .withdrawNormal args => some (6, args)
  | .withdrawForced args => some (6, args)
  | .rejoin args => some (7, args)
  | .laneTest args => some (8, args)
  | .directoryList args => some (9, args)
  | .directoryQuery args => some (10, args)
  | .setState args => some (11, args)
  | .portClear args => some (12, args)
  | .groupRestore args => some (13, args)
  | .setMonitor args => some (14, args)
  | .portQuery args => some (15, args)
  | .setEntry args => some (16, args)
  | .removeEntry args => some (17, args)
  | .setMinus args => some (18, args)
  | .setPad args => some (19, args)
  | .setTalkback args => some (20, args)
  | .talkbackOn args => some (21, args)
  | .talkbackOff args => some (22, args)
  | .setCadence args => some (23, args)
  | .setTerm args => some (24, args)
  | .removeTerm args => some (25, args)
  | .clearMix args => some (26, args)
  | .mixOn args => some (27, args)
  | .mixOff args => some (28, args)
  | .mixQuery args => some (29, args)
  | _ => none

/-- A request message as the host clocks it: the code, the argument length, the arguments (R157). -/
def messageBytes (code : Byte) (args : List Byte) : List Byte := code :: BitVec.ofNat 8 args.length :: args

/-- Whether the bytes held make a complete request: a code, an argument length and that many argument bytes (R157). -/
def messageComplete : List Byte → Bool
  | _ :: len :: args => decide (len.toNat ≤ args.length)
  | _ => false

end Sys2Proof
end

