-- ==== Sys2Proof/Machine/StationRequests.lean ====
section
/-! DEFINITION. The station requests, as acceptance decides them (spec/10_control_link.md, R33, R34, R142 to R152):
each answers the state after acceptance and the response. -/

namespace Sys2Proof.Machine

/-- A request that is answered without data and changes nothing. -/
def answer (code : ResultCode) (s : State) : State × Response := (s, { code := code, data := [] })

/-- The STATUS data (R162, R180). -/
def statusData (s : State) : List Byte :=
  let quiet : Option (List Byte) :=
    match s.station with
    | .starting (some q) _ => some (be1 q)
    | _ => none
  let timer : Option (List Byte) :=
    match s.station with
    | .withdrawing t => some (be2 t)
    | _ => none
  let closing : Option (List Byte) :=
    match s.station with
    | .closing cause finals => some (be1 (closingCode cause) ++ be1 finals)
    | _ => none
  let test : Option (List Byte) :=
    match s.station with
    | .withdrawn (some t) => some (be1 t.sent ++ be1 t.judged ++ be1 t.missing ++ be1 t.differing)
    | _ => none
  be1 (stationCode s.stationName) ++ be1 s.stationNumber.val ++ be2 s.sequence.toNat
    ++ be1 (resetCauseCode s.resetCause)
    ++ be1 (match s.monitor.condition with | .timed => 0 | .lost => 1)
    ++ be1 s.echoMismatch
    ++ optField 1 quiet ++ optField 2 timer ++ optField 2 closing ++ optField 4 test
    ++ be1 s.events.length ++ flagByte s.overflow ++ be2 s.link.cutCount

/-- STATUS (R162). -/
def decideStatus (args : List Byte) (s : State) : State × Response :=
  match args with
  | [] => (s, { code := .ok, data := statusData s })
  | _ => answer .badArgument s

/-- STATION RESET (R165): answered OK; the reset waits for the end of the response or of the selection. -/
def decideStationReset (args : List Byte) (s : State) : State × Response :=
  match args with
  | [] => answer .ok (s.updLink fun l => { l with resetArmed := true })
  | _ => answer .badArgument s

/-- A lane's five statistics at 0 (R164). -/
def Lane.clearCounts (lane : Lane) : Lane :=
  { lane with good := 0, checkFailures := 0, stationMismatches := 0, slips := 0, testFrames := 0 }

/-- A port's counts at 0 and its miss-reported flag clear (R125). -/
def Port.clearCounts (port : Port) : Port := { port with misses := 0, saturations := 0, missReported := false }

/-- CLEAR COUNTS (R164). -/
def decideClearCounts (args : List Byte) (s : State) : State × Response :=
  match args with
  | [] =>
    answer .ok (((s.mapLanes fun _ lane => lane.clearCounts).mapPorts fun _ port => port.clearCounts).updLink
      fun l => { l with cutCount := 0 })
  | _ => answer .badArgument s

/-- The LANE STATS data (R163, R180). -/
def laneStatsData (lane : Lane) : List Byte :=
  let state : Nat :=
    match lane.receive with
    | .absent => 0
    | .acquiring _ _ => 1
    | .present _ => 2
    | .lapsed _ _ => 3
  let previous : Option (List Byte) :=
    match lane.receive with
    | .absent => none
    | .acquiring p _ => some (be2 p.toNat)
    | .present p => some (be2 p.toNat)
    | .lapsed p _ => some (be2 p.toNat)
  let tally : Option (List Byte) :=
    match lane.receive with
    | .acquiring _ n => some (be1 n)
    | .lapsed _ n => some (be1 n)
    | _ => none
  be1 state ++ optField 2 previous ++ optField 1 tally ++ flagByte lane.finalMark ++ flagByte lane.withdrawing
    ++ be2 lane.good ++ be2 lane.checkFailures ++ be2 lane.stationMismatches ++ be2 lane.slips ++ be2 lane.testFrames

/-- LANE STATS (R163). -/
def decideLaneStats (args : List Byte) (s : State) : State × Response :=
  match args with
  | [l] =>
    match laneArg l with
    | some lane => (s, { code := .ok, data := laneStatsData (s.lanes.get lane) })
    | none => answer .badArgument s
  | _ => answer .badArgument s

/-- READ EVENT (R171): the oldest record leaves the queue; the overflow mark is reported and cleared. -/
def decideReadEvent (args : List Byte) (s : State) : State × Response :=
  match args with
  | [] =>
    match s.events with
    | [] => ({ s with overflow := false }, { code := .notFound, data := flagByte s.overflow })
    | oldest :: rest =>
      ({ s with events := rest, overflow := false }
       , { code := .ok, data := eventBytes oldest ++ flagByte s.overflow })
  | _ => answer .badArgument s

/-- WITHDRAW with mode NORMAL (R142, R143); a mode that is neither NORMAL nor FORCED, and a wrong length, are
answered BAD_ARGUMENT. -/
def decideWithdrawNormal (args : List Byte) (s : State) : State × Response :=
  match args with
  | [mode] =>
    if mode.toNat = 0 then
      match s.station with
      | .running => answer .ok (s.withStation (.withdrawing 0))
      | _ => answer .refused s
    else answer .badArgument s
  | _ => answer .badArgument s

/-- WITHDRAW with mode FORCED (R142, R146): a RUNNING or WITHDRAWING station enters CLOSING at acceptance, and its
returns go silent at once (R117). -/
def decideWithdrawForced (args : List Byte) (s : State) : State × Response :=
  match args with
  | [mode] =>
    if mode.toNat = 1 then
      if s.active then answer .ok (s.enterClosing .forced).silence else answer .refused s
    else answer .badArgument s
  | _ => answer .badArgument s

/-- REJOIN (R151). -/
def decideRejoin (args : List Byte) (s : State) : State × Response :=
  match args with
  | [] =>
    if s.station = .withdrawn none ∧ s.monitor.condition = .timed then
      answer .ok { (s.withStation (.starting none false)) with echoMismatch := 0 }
    else answer .refused s
  | _ => answer .badArgument s

/-- LANE TEST (R152). The lane is driven while the test runs (R6; log entry 16). -/
def decideLaneTest (args : List Byte) (s : State) : State × Response :=
  match args with
  | [] =>
    if s.station = .withdrawn none ∧ s.monitor.condition = .timed then
      answer .ok
        { (s.withStation (.withdrawn (some { sent := 0, judged := 0, missing := 0, differing := 0 }))) with
          lout := .driven [] }
    else answer .refused s
  | _ => answer .badArgument s

/-- The presence map of a lane's entries, fresh or not (R33). -/
def presenceMap (entries : Vector (Option Entry) 16) : Nat :=
  mapValue ((List.finRange 16).filter fun c => (entries.get c).isSome)

/-- DIRECTORY LIST (R33). -/
def decideDirectoryList (args : List Byte) (s : State) : State × Response :=
  match args with
  | [] =>
    (s, { code := .ok, data := (List.finRange 16).flatMap fun l => be2 (presenceMap (s.directory.get l)) })
  | _ => answer .badArgument s

/-- The DIRECTORY QUERY data (R34, R180). -/
def entryData (e : Entry) : List Byte :=
  let common (kind : Nat) : List Byte := be1 kind ++ be2 e.sequence.toNat ++ flagByte e.fresh ++ be2 e.age
  match e.body with
  | .party state activity holder pendingCount =>
    common 0 ++ be1 (portStateCode state) ++ flagByte activity ++ optTag holder ++ be1 pendingCount
  | .feed => common 1
  | .mix r =>
    common 2 ++ be1 r.channel.val ++ be1 r.terms.length
      ++ be1 r.stamps.length ++ r.stamps.flatMap (fun st => be1 st.1.val ++ be2 st.2.toNat)
      ++ r.terms.flatMap (fun t => tagByte t.1 :: be2 t.2)
      ++ flagByte r.clip

/-- DIRECTORY QUERY (R34). -/
def decideDirectoryQuery (args : List Byte) (s : State) : State × Response :=
  match args with
  | [tag] =>
    match s.entry (tagOfByte tag) with
    | some e => (s, { code := .ok, data := entryData e })
    | none => answer .notFound s
  | _ => answer .badArgument s

end Sys2Proof.Machine
end

