-- ==== Sys2Proof/Machine/PortRequests.lean ====
section
/-! DEFINITION. The port requests, as acceptance decides them (spec/04_party_ports.md,
spec/07_returns_and_cancellation.md, spec/08_talkback_and_hold_cadence.md). -/

namespace Sys2Proof.Machine

/-- SET STATE (R54, R55). -/
def decideSetState (args : List Byte) (s : State) : State × Response :=
  match args with
  | [p, t] =>
    match portArg p, targetArg t with
    | some port, some target =>
      if s.stationName = .closing ∨ s.stationName = .withdrawn then answer .refused s
      else if (s.ports.get port).state = .outOfService then answer .refused s
      else if (s.ports.get port).state = target then answer .ok s
      else answer .ok (s.updPort port fun q => q.changeState target)
    | _, _ => answer .badArgument s
  | _ => answer .badArgument s

/-- A port cleared (R63, R64): served ports go to IDLE; claims, talkback, counts and monitor are emptied. -/
def Port.clear (port : Port) : Port :=
  let moved := if port.served then port.changeState .idle else port
  { moved.emptyClaims.resetMonitor.clearCounts with talkback := false }

/-- PORT CLEAR (R63, R64). -/
def decidePortClear (args : List Byte) (s : State) : State × Response :=
  match args with
  | [p] =>
    match portArg p with
    | some port => answer .ok (s.updPort port Port.clear)
    | none => answer .badArgument s
  | _ => answer .badArgument s

/-- The OUT_OF_SERVICE ports of a group moved to IDLE (R62). -/
def State.restoreGroup (s : State) (g : Group) : State :=
  s.mapPorts fun p port =>
    if groupOfPort p = g ∧ port.state = .outOfService then port.changeState .idle else port

/-- GROUP RESTORE (R62). -/
def decideGroupRestore (args : List Byte) (s : State) : State × Response :=
  match args with
  | [b] =>
    match groupArg b with
    | none => answer .badArgument s
    | some g =>
      if s.level g then answer .refused s
      else if s.outOfService (portsOf g) = 0 then answer .refused s
      else (s.restoreGroup g, { code := .ok, data := be1 (s.outOfService (portsOf g)) })
  | _ => answer .badArgument s

/-- The threshold that a choice stores (R68), and whether a value was clamped. -/
def chosenThreshold (choice : ThresholdChoice) (host : Nat) : Nat × Bool :=
  match choice with
  | .low => (65536, false)
  | .mid => (131072, false)
  | .high => (262144, false)
  | .set => (clampThreshold host, clampThreshold host != host)

/-- SET MONITOR (R68). -/
def decideSetMonitor (args : List Byte) (s : State) : State × Response :=
  match args with
  | [p, c, h2, h1, h0, n] =>
    match portArg p, choiceArg c, noticeArg n with
    | some port, some choice, some notice =>
      let chosen := chosenThreshold choice (nat3 h2 h1 h0)
      answer (okUnlessClamped (!chosen.2))
        (s.updPort port fun q => { q with choice := choice, threshold := chosen.1, notice := notice })
    | _, _, _ => answer .badArgument s
  | _ => answer .badArgument s

/-- A recipe's bytes in PORT QUERY (R180). -/
def recipeData (recipe : List RecipeEntry) : List Byte :=
  be1 recipe.length ++ recipe.flatMap fun e => tagByte e.tag :: be2 e.gain

/-- The PORT QUERY data (R69, R103, R127, R140, R180). -/
def portData (s : State) (p : Fin 8) : List Byte :=
  let q := s.ports.get p
  let minus := s.minusSet p
  be1 (portStateCode q.state) ++ be1 (groupCode (groupOfPort p)) ++ be1 (choiceCode q.choice) ++ be3 q.threshold
    ++ flagByte q.notice ++ be3 q.peak ++ flagByte q.activity ++ be2 q.quiet ++ flagByte q.armed
    ++ flagByte (s.level (groupOfPort p))
    ++ optTag q.holder ++ be1 q.queue.length ++ q.queue.map tagByte
    ++ recipeData q.screenRecipe ++ recipeData q.holdRecipe ++ recipeData q.airRecipe
    ++ be1 minus.length ++ minus.map tagByte
    ++ be1 q.pad ++ be2 q.misses ++ be2 q.saturations ++ flagByte q.missReported
    ++ optTag q.source ++ be2 q.talkGain ++ be2 q.duck ++ flagByte q.talkback
    ++ be2 q.period ++ be2 q.onTime ++ be3 q.amplitude ++ be2 q.counter

/-- PORT QUERY (R69). -/
def decidePortQuery (args : List Byte) (s : State) : State × Response :=
  match args with
  | [p] =>
    match portArg p with
    | some port => (s, { code := .ok, data := portData s port })
    | none => answer .badArgument s
  | _ => answer .badArgument s

/-! ## The return settings -/

/-- The recipe of a name: the name is given as the port state that uses it. -/
def Port.recipeNamed (port : Port) (name : PortState) : List RecipeEntry :=
  match name with
  | .screen => port.screenRecipe
  | .hold => port.holdRecipe
  | .air => port.airRecipe
  | _ => []

/-- The recipe of a name replaced. -/
def Port.setRecipe (port : Port) (name : PortState) (recipe : List RecipeEntry) : Port :=
  match name with
  | .screen => { port with screenRecipe := recipe }
  | .hold => { port with holdRecipe := recipe }
  | .air => { port with airRecipe := recipe }
  | _ => port

/-- Whether a recipe names a tag. -/
def recipeNames (recipe : List RecipeEntry) (tag : Tag) : Bool := recipe.any fun e => e.tag == tag

/-- The gain of a recipe's entry replaced in place (R108). -/
def regain (recipe : List RecipeEntry) (tag : Tag) (gain : Nat) : List RecipeEntry :=
  recipe.map fun e => if e.tag = tag then { e with gain := gain } else e

/-- SET ENTRY (R108). -/
def decideSetEntry (args : List Byte) (s : State) : State × Response :=
  match args with
  | [p, r, t, g1, g0] =>
    match portArg p, recipeArg r with
    | some port, some name =>
      let tag := tagOfByte t
      let given := nat2 g1 g0
      let gain := clampLevel given
      let recipe := (s.ports.get port).recipeNamed name
      let code := okUnlessClamped (gain == given)
      if tag.kind ≠ .mix ∧ tag ∈ s.minusSet port then answer .conflict s
      else if recipeNames recipe tag then
        answer code (s.updPort port fun q => q.setRecipe name (regain recipe tag gain))
      else if 6 ≤ recipe.length then answer .full s
      else answer code (s.updPort port fun q => q.setRecipe name (recipe ++ [{ tag := tag, gain := gain }]))
    | _, _ => answer .badArgument s
  | _ => answer .badArgument s

/-- REMOVE ENTRY (R109). -/
def decideRemoveEntry (args : List Byte) (s : State) : State × Response :=
  match args with
  | [p, r, t] =>
    match portArg p, recipeArg r with
    | some port, some name =>
      let tag := tagOfByte t
      let recipe := (s.ports.get port).recipeNamed name
      if recipeNames recipe tag then
        answer .ok (s.updPort port fun q => q.setRecipe name (recipe.filter fun e => e.tag != tag))
      else answer .notFound s
    | _, _ => answer .badArgument s
  | _ => answer .badArgument s

/-- Whether a direct entry in any of a port's three recipes names a tag; a PARTY or FEED tag that a recipe names is
named by a direct entry (R106, R110). -/
def Port.namesDirectly (port : Port) (tag : Tag) : Bool :=
  tag.kind != .mix &&
    (recipeNames port.screenRecipe tag || recipeNames port.holdRecipe tag || recipeNames port.airRecipe tag)

/-- A list with every tag in its first place only. -/
def firstPlaces : List Tag → List Tag
  | [] => []
  | t :: rest => t :: (firstPlaces rest).filter fun u => u != t

/-- The extras that a tag list stores (R110): a tag given twice once, the own tag not at all. -/
def storedExtras (ownTag : Tag) (tags : List Tag) : List Tag := (firstPlaces tags).filter fun t => t != ownTag

/-- SET MINUS (R110). -/
def decideSetMinus (args : List Byte) (s : State) : State × Response :=
  match args with
  | p :: bytes =>
    match portArg p with
    | some port =>
      let tags := bytes.map tagOfByte
      let q := s.ports.get port
      if 3 < tags.length then answer .badArgument s
      else if tags.any fun t => t.kind == .mix || t.station != s.stationNumber then answer .conflict s
      else if tags.any q.namesDirectly then answer .conflict s
      else if tags.any fun t => q.source == some t then answer .conflict s
      else answer .ok (s.updPort port fun q => { q with extras := storedExtras (s.portTag port) tags })
    | none => answer .badArgument s
  | [] => answer .badArgument s

/-- SET PAD (R111). -/
def decideSetPad (args : List Byte) (s : State) : State × Response :=
  match args with
  | [p, k] =>
    match portArg p with
    | some port =>
      answer (okUnlessClamped (clampPad k.toNat == k.toNat))
        (s.updPort port fun q => { q with pad := clampPad k.toNat })
    | none => answer .badArgument s
  | _ => answer .badArgument s

/-! ## The cue settings -/

/-- Whether a talkback source is refused with CONFLICT (R129): a MIX tag, or a tag in the port's minus set. -/
def State.sourceConflicts (s : State) (p : Fin 8) (source : Option Tag) : Bool :=
  match source with
  | none => false
  | some tag => tag.kind == .mix || (s.minusSet p).contains tag

/-- SET TALKBACK (R129). -/
def decideSetTalkback (args : List Byte) (s : State) : State × Response :=
  match args with
  | [p, c, t, g1, g0, d1, d0] =>
    match portArg p, sourceArg c t with
    | some port, some source =>
      let gain := nat2 g1 g0
      let duck := nat2 d1 d0
      if s.sourceConflicts port source then answer .conflict s
      else
        answer (okUnlessClamped (clampLevel gain == gain && clampDuck duck == duck))
          (s.updPort port fun q => { q with source := source, talkGain := clampLevel gain, duck := clampDuck duck })
    | _, _ => answer .badArgument s
  | _ => answer .badArgument s

/-- TALKBACK ON (R130). -/
def decideTalkbackOn (args : List Byte) (s : State) : State × Response :=
  match args with
  | [p] =>
    match portArg p with
    | some port =>
      if (s.ports.get port).served then answer .ok (s.updPort port fun q => { q with talkback := true })
      else answer .refused s
    | none => answer .badArgument s
  | _ => answer .badArgument s

/-- TALKBACK OFF (R130). -/
def decideTalkbackOff (args : List Byte) (s : State) : State × Response :=
  match args with
  | [p] =>
    match portArg p with
    | some port => answer .ok (s.updPort port fun q => { q with talkback := false })
    | none => answer .badArgument s
  | _ => answer .badArgument s

/-- SET CADENCE (R135). -/
def decideSetCadence (args : List Byte) (s : State) : State × Response :=
  match args with
  | [p, p1, p0, d1, d0, a2, a1, a0] =>
    match portArg p with
    | some port =>
      let period := clampPeriod (nat2 p1 p0)
      let onTime := clampOnTime period (nat2 d1 d0)
      let amplitude := clampAmplitude (nat3 a2 a1 a0)
      answer (okUnlessClamped (period == nat2 p1 p0 && onTime == nat2 d1 d0 && amplitude == nat3 a2 a1 a0))
        (s.updPort port fun q =>
          { q with period := period, onTime := onTime, amplitude := amplitude, counter := 0 })
    | none => answer .badArgument s
  | _ => answer .badArgument s

end Sys2Proof.Machine
end

