-- ==== Sys2Proof/Machine/MixRequests.lean ====
section
/-! DEFINITION. The mix requests, as acceptance decides them (spec/05_mixes.md). -/

namespace Sys2Proof.Machine

/-- Whether a mix's term list names a tag. -/
def Mix.names (mix : Mix) (tag : Tag) : Bool := mix.terms.any fun t => t.tag == tag

/-- The number of PARTY terms of a mix (R71). -/
def Mix.partyTerms (mix : Mix) : Nat := (mix.terms.filter fun t => t.tag.kind == .party).length

/-- A term as SET TERM adds it (R72): a PARTY term's claim status begins as UNHEARD. -/
def newTerm (tag : Tag) (coefficient : Nat) : Term :=
  { tag := tag, coefficient := coefficient, status := if tag.kind = .party then some .unheard else none }

/-- A term's coefficient replaced in place, its claim status kept (R72). -/
def Mix.setCoefficient (mix : Mix) (tag : Tag) (coefficient : Nat) : Mix :=
  { mix with terms := mix.terms.map fun t => if t.tag = tag then { t with coefficient := coefficient } else t }

/-- SET TERM (R72). -/
def decideSetTerm (args : List Byte) (s : State) : State × Response :=
  match args with
  | [m, t, c1, c0] =>
    match mixArg m with
    | some mix =>
      let tag := tagOfByte t
      let given := nat2 c1 c0
      let coefficient := clampLevel given
      let code := okUnlessClamped (coefficient == given)
      let x := s.mixes.get mix
      if tag.kind = .mix then answer .conflict s
      else if x.names tag then answer code (s.updMix mix fun y => y.setCoefficient tag coefficient)
      else if 48 ≤ x.terms.length then answer .full s
      else if tag.kind = .party ∧ 16 ≤ x.partyTerms then answer .full s
      else answer code (s.updMix mix fun y => { y with terms := y.terms ++ [newTerm tag coefficient] })
    | none => answer .badArgument s
  | _ => answer .badArgument s

/-- REMOVE TERM (R73). -/
def decideRemoveTerm (args : List Byte) (s : State) : State × Response :=
  match args with
  | [m, t] =>
    match mixArg m with
    | some mix =>
      let tag := tagOfByte t
      if (s.mixes.get mix).names tag then
        answer .ok (s.updMix mix fun y => { y with terms := y.terms.filter fun u => u.tag != tag })
      else answer .notFound s
    | none => answer .badArgument s
  | _ => answer .badArgument s

/-- CLEAR MIX (R74). -/
def decideClearMix (args : List Byte) (s : State) : State × Response :=
  match args with
  | [m] =>
    match mixArg m with
    | some mix => answer .ok (s.updMix mix fun y => { y with terms := [] })
    | none => answer .badArgument s
  | _ => answer .badArgument s

/-- MIX ON (R75). -/
def decideMixOn (args : List Byte) (s : State) : State × Response :=
  match args with
  | [m] =>
    match mixArg m with
    | some mix => answer .ok (s.updMix mix fun y => { y with live := true })
    | none => answer .badArgument s
  | _ => answer .badArgument s

/-- MIX OFF (R75). -/
def decideMixOff (args : List Byte) (s : State) : State × Response :=
  match args with
  | [m] =>
    match mixArg m with
    | some mix => answer .ok (s.updMix mix fun y => { y with live := false })
    | none => answer .badArgument s
  | _ => answer .badArgument s

/-- The MIX QUERY data (R76, R180). -/
def mixData (x : Mix) : List Byte :=
  flagByte x.live ++ be1 x.terms.length ++ be1 x.partyTerms ++ be1 x.lastIncluded ++ flagByte x.lastClip
    ++ x.terms.flatMap fun t =>
      tagByte t.tag :: be2 t.coefficient ++ optField 1 (t.status.map fun st => be1 (claimCode st))

/-- MIX QUERY (R76). -/
def decideMixQuery (args : List Byte) (s : State) : State × Response :=
  match args with
  | [m] =>
    match mixArg m with
    | some mix => (s, { code := .ok, data := mixData (s.mixes.get mix) })
    | none => answer .badArgument s
  | _ => answer .badArgument s

end Sys2Proof.Machine
end

