-- ==== Sys2Proof/Machine/Link.lean ====
section
/-! DEFINITION. The control link at the granularity of whole bytes (spec/10_control_link.md, R155 to R161; log
entry 10), and the meanings of the commands that clock it. Bits that make up no whole byte are dropped (R159). -/

namespace Sys2Proof.Machine

/-! ## Acceptance (R157, R158, R160) -/

/-- The request a complete message names, decided (R157): by its code, then by its entry. -/
def decideRequest (code : Byte) (args : List Byte) (s : State) : State × Response :=
  match commandOfMessage code args with
  | .status a => decideStatus a s
  | .stationReset a => decideStationReset a s
  | .clearCounts a => decideClearCounts a s
  | .laneStats a => decideLaneStats a s
  | .readEvent a => decideReadEvent a s
  | .withdrawNormal a => decideWithdrawNormal a s
  | .withdrawForced a => decideWithdrawForced a s
  | .rejoin a => decideRejoin a s
  | .laneTest a => decideLaneTest a s
  | .directoryList a => decideDirectoryList a s
  | .directoryQuery a => decideDirectoryQuery a s
  | .setState a => decideSetState a s
  | .portClear a => decidePortClear a s
  | .groupRestore a => decideGroupRestore a s
  | .setMonitor a => decideSetMonitor a s
  | .portQuery a => decidePortQuery a s
  | .setEntry a => decideSetEntry a s
  | .removeEntry a => decideRemoveEntry a s
  | .setMinus a => decideSetMinus a s
  | .setPad a => decideSetPad a s
  | .setTalkback a => decideSetTalkback a s
  | .talkbackOn a => decideTalkbackOn a s
  | .talkbackOff a => decideTalkbackOff a s
  | .setCadence a => decideSetCadence a s
  | .setTerm a => decideSetTerm a s
  | .removeTerm a => decideRemoveTerm a s
  | .clearMix a => decideClearMix a s
  | .mixOn a => decideMixOn a s
  | .mixOff a => decideMixOff a s
  | .mixQuery a => decideMixQuery a s
  | _ => answer .unknown s

/-- A response's bytes (R158, R179): the mark, the result code, the data length, the data. -/
def responseBytes (r : Response) : List Byte :=
  0xA5 :: resultByte r.code :: BitVec.ofNat 8 r.data.length :: r.data

/-- The link enters RESPONSE with a response fixed; the number of idle-fill bytes before the mark, 0 to 3, is the
part's to choose (R156, R158; log entry 8). -/
def State.respond (s : State) (r : Response) : State :=
  { s with
    freeCount := s.freeCount + 1
    link := { s.link with state := .response (Config.responseFill s.freeCount % 4) (responseBytes r) } }

/-- A request is accepted (R157): decided, its changes made, its response fixed, in one event. -/
def State.accept (s : State) (code : Byte) (args : List Byte) : State :=
  (decideRequest code args s).1.respond (decideRequest code args s).2

/-! ## One byte each way (R155, R156) -/

/-- What CDOUT carries while a request byte is shifted in: no rule states it (R155 to R158; log entry 9). -/
def State.shiftIn (s : State) : State :=
  { s with
    freeCount := s.freeCount + 1
    link := { s.link with cdout := .driven (some (Config.requestCdout s.freeCount)) } }

/-- A byte completes in REQUEST (R156, R157): it is held, or it completes the request, which is then accepted. -/
def State.holdByte (s : State) (held : List Byte) (b : Byte) : State :=
  let bytes := held ++ [b]
  if messageComplete bytes then
    (s.shiftIn.updLink fun l => { l with state := .request [] }).accept (bytes.getD 0 0) (bytes.drop 2)
  else s.shiftIn.updLink fun l => { l with state := .request bytes }

/-- CDOUT carries a byte. -/
def Link.carry (l : Link) (b : Byte) : Link := { l with cdout := .driven (some b) }

/-- The last byte of the response has gone: the link enters DRAIN (R156), and an accepted STATION RESET begins its
reset (R165). -/
def State.endResponse (s : State) : State :=
  let drained := s.updLink fun l => { l with state := .drain }
  if s.link.resetArmed then drained.holdReset .command else drained

/-- One byte clocked, `b` being the byte on CDIN (R155, R156, R158). Outside a selection, in BARRED and during a reset
the link ignores it (R155, R156, R167). -/
def State.clockByte (s : State) (b : Byte) : State :=
  if s.inReset then s
  else
    match s.link.state with
    | .deselected => s
    | .barred => s
    | .request held => s.holdByte held b
    | .response (fill + 1) rest => s.updLink fun l => { l.carry 0 with state := .response fill rest }
    | .response 0 (next :: more :: rest) => s.updLink fun l => { l.carry next with state := .response 0 (more :: rest) }
    | .response 0 [last] => (s.updLink fun l => l.carry last).endResponse
    | .response 0 [] => s.endResponse
    | .drain => s.updLink fun l => l.carry 0

/-- Bytes clocked one after another. -/
def State.clockAll (s : State) (bytes : List Byte) : State := bytes.foldl State.clockByte s

/-- A request message clocked (R157, R179). -/
def State.clockMessage (s : State) (code : Byte) (args : List Byte) : State := s.clockAll (messageBytes code args)

/-- The state in which a request of `n` bytes, clocked into an empty REQUEST, is accepted: the bytes have been shifted
in (R155). -/
def State.received (s : State) (n : Nat) : State :=
  { s with
    freeCount := s.freeCount + n
    link := { s.link with cdout := .driven (some (Config.requestCdout (s.freeCount + n - 1))) } }

/-! ## Selections (R155, R156, R159) -/

/-- CSEL_N negated outside a reset (R156, R159, R165): a request that has begun is cut, a response still going is
lost, CDOUT is released, and an accepted STATION RESET begins its reset. -/
def State.endSelection (s : State) : State :=
  let cut : Nat :=
    match s.link.state with
    | .request (_ :: _) => 1
    | _ => 0
  let ended := s.updLink fun l =>
    { l with state := .deselected, selected := false, cdout := .released, cutCount := addCount l.cutCount cut }
  if s.link.resetArmed then ended.holdReset .command else ended

/-- SELECT (R155, R156), with the bytes clocked before the next command. In a reset only the pin moves (R167). -/
def execSelect (clocked : List Byte) (s : State) : Host.Outcome State Fault Refusal :=
  if s.link.selected then .next s
  else if s.inReset then .next (s.updLink fun l => { l with selected := true })
  else
    .next ((s.updLink fun l => { l with state := .request [], selected := true, cdout := .driven none }).clockAll
      clocked)

/-- The end of a selection, with the bytes clocked since the last command. -/
def State.deselect (s : State) (clocked : List Byte) : State :=
  let t := s.clockAll clocked
  if t.inReset then t.updLink fun l => { l with selected := false } else t.endSelection

/-- DESELECT (R156), with the bytes clocked since the last command. In a reset only the pin moves (R167). -/
def execDeselect (clocked : List Byte) (s : State) : Host.Outcome State Fault Refusal :=
  if s.link.selected then .next (s.deselect clocked) else .next s

/-- The last byte that a response still has to send. -/
def lastByte (rest : List Byte) : Byte := rest.getLastD 0

/-- The rest of a response clocked out to its last byte (R156). -/
def State.finishResponse (s : State) : State :=
  match s.link.state with
  | .response _ rest => (s.updLink fun l => l.carry (lastByte rest)).endResponse
  | _ => s

/-- RESPONSE_END (R156): the last byte of a response has been clocked out. -/
def execResponseEnd (s : State) : Host.Outcome State Fault Refusal :=
  if s.inReset then .next s else .next s.finishResponse

/-! ## The requests: each clocks its message -/

/-- UNKNOWN_REQUEST (R157): a complete request whose code names no request is answered UNKNOWN. -/
def execUnknownRequest (code : Byte) (args : List Byte) (s : State) : Host.Outcome State Fault Refusal :=
  .next (s.clockMessage code args)

/-- STATUS (R162). -/
def execStatus (args : List Byte) (s : State) : Host.Outcome State Fault Refusal := .next (s.clockMessage 1 args)

/-- STATION_RESET (R165). -/
def execStationReset (args : List Byte) (s : State) : Host.Outcome State Fault Refusal := .next (s.clockMessage 2 args)

/-- CLEAR_COUNTS (R164). -/
def execClearCounts (args : List Byte) (s : State) : Host.Outcome State Fault Refusal := .next (s.clockMessage 3 args)

/-- LANE_STATS (R163). -/
def execLaneStats (args : List Byte) (s : State) : Host.Outcome State Fault Refusal := .next (s.clockMessage 4 args)

/-- READ_EVENT (R171). -/
def execReadEvent (args : List Byte) (s : State) : Host.Outcome State Fault Refusal := .next (s.clockMessage 5 args)

/-- WITHDRAW_NORMAL (R142, R143). -/
def execWithdrawNormal (args : List Byte) (s : State) : Host.Outcome State Fault Refusal := .next (s.clockMessage 6 args)

/-- WITHDRAW_FORCED (R142, R146). -/
def execWithdrawForced (args : List Byte) (s : State) : Host.Outcome State Fault Refusal := .next (s.clockMessage 6 args)

/-- REJOIN (R151). -/
def execRejoin (args : List Byte) (s : State) : Host.Outcome State Fault Refusal := .next (s.clockMessage 7 args)

/-- LANE_TEST (R152). -/
def execLaneTest (args : List Byte) (s : State) : Host.Outcome State Fault Refusal := .next (s.clockMessage 8 args)

/-- DIRECTORY_LIST (R33). -/
def execDirectoryList (args : List Byte) (s : State) : Host.Outcome State Fault Refusal := .next (s.clockMessage 9 args)

/-- DIRECTORY_QUERY (R34). -/
def execDirectoryQuery (args : List Byte) (s : State) : Host.Outcome State Fault Refusal := .next (s.clockMessage 10 args)

/-- SET_STATE (R54). -/
def execSetState (args : List Byte) (s : State) : Host.Outcome State Fault Refusal := .next (s.clockMessage 11 args)

/-- PORT_CLEAR (R63). -/
def execPortClear (args : List Byte) (s : State) : Host.Outcome State Fault Refusal := .next (s.clockMessage 12 args)

/-- GROUP_RESTORE (R62). -/
def execGroupRestore (args : List Byte) (s : State) : Host.Outcome State Fault Refusal := .next (s.clockMessage 13 args)

/-- SET_MONITOR (R68). -/
def execSetMonitor (args : List Byte) (s : State) : Host.Outcome State Fault Refusal := .next (s.clockMessage 14 args)

/-- PORT_QUERY (R69). -/
def execPortQuery (args : List Byte) (s : State) : Host.Outcome State Fault Refusal := .next (s.clockMessage 15 args)

/-- SET_ENTRY (R108). -/
def execSetEntry (args : List Byte) (s : State) : Host.Outcome State Fault Refusal := .next (s.clockMessage 16 args)

/-- REMOVE_ENTRY (R109). -/
def execRemoveEntry (args : List Byte) (s : State) : Host.Outcome State Fault Refusal := .next (s.clockMessage 17 args)

/-- SET_MINUS (R110). -/
def execSetMinus (args : List Byte) (s : State) : Host.Outcome State Fault Refusal := .next (s.clockMessage 18 args)

/-- SET_PAD (R111). -/
def execSetPad (args : List Byte) (s : State) : Host.Outcome State Fault Refusal := .next (s.clockMessage 19 args)

/-- SET_TALKBACK (R129). -/
def execSetTalkback (args : List Byte) (s : State) : Host.Outcome State Fault Refusal := .next (s.clockMessage 20 args)

/-- TALKBACK_ON (R130). -/
def execTalkbackOn (args : List Byte) (s : State) : Host.Outcome State Fault Refusal := .next (s.clockMessage 21 args)

/-- TALKBACK_OFF (R130). -/
def execTalkbackOff (args : List Byte) (s : State) : Host.Outcome State Fault Refusal := .next (s.clockMessage 22 args)

/-- SET_CADENCE (R135). -/
def execSetCadence (args : List Byte) (s : State) : Host.Outcome State Fault Refusal := .next (s.clockMessage 23 args)

/-- SET_TERM (R72). -/
def execSetTerm (args : List Byte) (s : State) : Host.Outcome State Fault Refusal := .next (s.clockMessage 24 args)

/-- REMOVE_TERM (R73). -/
def execRemoveTerm (args : List Byte) (s : State) : Host.Outcome State Fault Refusal := .next (s.clockMessage 25 args)

/-- CLEAR_MIX (R74). -/
def execClearMix (args : List Byte) (s : State) : Host.Outcome State Fault Refusal := .next (s.clockMessage 26 args)

/-- MIX_ON (R75). -/
def execMixOn (args : List Byte) (s : State) : Host.Outcome State Fault Refusal := .next (s.clockMessage 27 args)

/-- MIX_OFF (R75). -/
def execMixOff (args : List Byte) (s : State) : Host.Outcome State Fault Refusal := .next (s.clockMessage 28 args)

/-- MIX_QUERY (R76). -/
def execMixQuery (args : List Byte) (s : State) : Host.Outcome State Fault Refusal := .next (s.clockMessage 29 args)

end Sys2Proof.Machine
end

