-- ==== Sys2Proof/Machine/Resets.lean ====
section
/-! DEFINITION. The meanings of the commands that begin and end resets (R165, R166). -/

namespace Sys2Proof.Machine

/-- POWER_ON_RESET (R166): the power-on detector begins a reset. One that it holds already goes on. -/
def execPowerOnReset (s : State) : Host.Outcome State Fault Refusal :=
  if s.resets.power then .next s else .next (s.holdReset .power)

/-- POWER_ON_RELEASE (R166): the power-on detector releases its reset. -/
def execPowerOnRelease (fin : ResetEnd) (s : State) : Host.Outcome State Fault Refusal :=
  if s.resets.power then .next (s.releaseReset .power fin) else .next s

/-- RESET_PIN_ASSERT (R166): RESET_N is asserted and a pin reset begins. -/
def execResetPinAssert (s : State) : Host.Outcome State Fault Refusal :=
  if s.resets.pin then .next s else .next (s.holdReset .pin)

/-- RESET_PIN_NEGATE (R166): RESET_N is negated. -/
def execResetPinNegate (fin : ResetEnd) (s : State) : Host.Outcome State Fault Refusal :=
  if s.resets.pin then .next (s.releaseReset .pin fin) else .next s

/-- COMMAND_RESET_BEGIN (R165; log entry 3): with an accepted STATION RESET whose response is still going, the last
byte of the response is clocked out or the selection ends, and the command reset begins. -/
def execCommandResetBegin (moment : ResetMoment) (s : State) : Host.Outcome State Fault Refusal :=
  if !s.inReset && s.link.resetArmed && s.link.selected then
    match moment with
    | .responseEnds => .next s.finishResponse
    | .selectionEnds clocked => .next (s.deselect clocked)
  else .next s

/-- COMMAND_RESET_EXPIRY (R165, R166): 1/16 of a block has passed since the command reset began. -/
def execCommandResetExpiry (fin : ResetEnd) (s : State) : Host.Outcome State Fault Refusal :=
  if s.resets.command then .next (s.releaseReset .command fin) else .next s

end Sys2Proof.Machine
end

