-- ==== Sys2Proof/Machine/Dispatch.lean ====
section
/-! DEFINITION. The dispatch: one arm for each command. -/

namespace Sys2Proof.Machine

def exec (i : Instr) (s : State) : Host.Outcome State Fault Refusal :=
  match i with
  | .blockStrobe inp => Sys2Proof.Machine.execBlockStrobe inp s
  | .strobeMissing => Sys2Proof.Machine.execStrobeMissing s
  | .strobeLoss => Sys2Proof.Machine.execStrobeLoss s
  | .goodRunTimeout => Sys2Proof.Machine.execGoodRunTimeout s
  | .strobeRunComplete inp => Sys2Proof.Machine.execStrobeRunComplete inp s
  | .frameStart lane => Sys2Proof.Machine.execFrameStart lane s
  | .frameComplete lane bytes ending => Sys2Proof.Machine.execFrameComplete lane bytes ending s
  | .acquireComplete inp lane => Sys2Proof.Machine.execAcquireComplete inp lane s
  | .missLimit inp lane => Sys2Proof.Machine.execMissLimit inp lane s
  | .listenComplete inp => Sys2Proof.Machine.execListenComplete inp s
  | .echoMismatchLimit inp => Sys2Proof.Machine.execEchoMismatchLimit inp s
  | .quietRunComplete inp port => Sys2Proof.Machine.execQuietRunComplete inp port s
  | .withdrawalTimerExpiry inp => Sys2Proof.Machine.execWithdrawalTimerExpiry inp s
  | .finalCountComplete inp => Sys2Proof.Machine.execFinalCountComplete inp s
  | .laneTestComplete inp => Sys2Proof.Machine.execLaneTestComplete inp s
  | .powerOnReset => Sys2Proof.Machine.execPowerOnReset s
  | .powerOnRelease fin => Sys2Proof.Machine.execPowerOnRelease fin s
  | .resetPinAssert => Sys2Proof.Machine.execResetPinAssert s
  | .resetPinNegate fin => Sys2Proof.Machine.execResetPinNegate fin s
  | .commandResetBegin moment => Sys2Proof.Machine.execCommandResetBegin moment s
  | .commandResetExpiry fin => Sys2Proof.Machine.execCommandResetExpiry fin s
  | .select clocked => Sys2Proof.Machine.execSelect clocked s
  | .deselect clocked => Sys2Proof.Machine.execDeselect clocked s
  | .unknownRequest code args => Sys2Proof.Machine.execUnknownRequest code args s
  | .status args => Sys2Proof.Machine.execStatus args s
  | .stationReset args => Sys2Proof.Machine.execStationReset args s
  | .clearCounts args => Sys2Proof.Machine.execClearCounts args s
  | .laneStats args => Sys2Proof.Machine.execLaneStats args s
  | .readEvent args => Sys2Proof.Machine.execReadEvent args s
  | .withdrawNormal args => Sys2Proof.Machine.execWithdrawNormal args s
  | .withdrawForced args => Sys2Proof.Machine.execWithdrawForced args s
  | .rejoin args => Sys2Proof.Machine.execRejoin args s
  | .laneTest args => Sys2Proof.Machine.execLaneTest args s
  | .directoryList args => Sys2Proof.Machine.execDirectoryList args s
  | .directoryQuery args => Sys2Proof.Machine.execDirectoryQuery args s
  | .setState args => Sys2Proof.Machine.execSetState args s
  | .portClear args => Sys2Proof.Machine.execPortClear args s
  | .groupRestore args => Sys2Proof.Machine.execGroupRestore args s
  | .setMonitor args => Sys2Proof.Machine.execSetMonitor args s
  | .portQuery args => Sys2Proof.Machine.execPortQuery args s
  | .setEntry args => Sys2Proof.Machine.execSetEntry args s
  | .removeEntry args => Sys2Proof.Machine.execRemoveEntry args s
  | .setMinus args => Sys2Proof.Machine.execSetMinus args s
  | .setPad args => Sys2Proof.Machine.execSetPad args s
  | .setTalkback args => Sys2Proof.Machine.execSetTalkback args s
  | .talkbackOn args => Sys2Proof.Machine.execTalkbackOn args s
  | .talkbackOff args => Sys2Proof.Machine.execTalkbackOff args s
  | .setCadence args => Sys2Proof.Machine.execSetCadence args s
  | .setTerm args => Sys2Proof.Machine.execSetTerm args s
  | .removeTerm args => Sys2Proof.Machine.execRemoveTerm args s
  | .clearMix args => Sys2Proof.Machine.execClearMix args s
  | .mixOn args => Sys2Proof.Machine.execMixOn args s
  | .mixOff args => Sys2Proof.Machine.execMixOff args s
  | .mixQuery args => Sys2Proof.Machine.execMixQuery args s
  | .sampleFrame adin => Sys2Proof.Machine.execSampleFrame adin s
  | .responseEnd => Sys2Proof.Machine.execResponseEnd s

end Sys2Proof.Machine
end

