-- ==== Sys2Proof/Safety.lean ====
section
/-! DEFINITION. The terms in which statements about the part are made: when it takes a request or a strobe, what an
answered request leaves, what it means that the host is told of an event, and the invariants of a sound state. -/

namespace Sys2Proof.Machine

/-! ## Moments -/

/-- The part can take a request now: no reset holds and the link is in REQUEST with no byte held (R156, R167). -/
def State.ready (s : State) : Prop := s.inReset = false ∧ s.link.state = .request []

/-- The part takes a strobe that arrives now: no reset holds and the station is not UNTIMED (R1). -/
def State.takesStrobes (s : State) : Prop := s.inReset = false ∧ s.station ≠ .untimed

/-- The state after a request of `n` bytes has been clocked into an empty REQUEST and answered: the bytes shifted in,
the request's own change, and the response fixed (R155 to R158). -/
def State.answered (s : State) (n : Nat) (change : State → State) (code : ResultCode) (data : List Byte) : State :=
  (change (s.received n)).respond { code := code, data := data }

/-- An event raised at a moment has been queued with the sequence counter's value, or it was discarded, the queue being
full and the overflow mark set (R168, R169). -/
def State.told (t : State) (e : Event) : Prop :=
  { event := e, sequence := t.sequence } ∈ t.events ∨ (t.overflow = true ∧ 32 ≤ t.events.length)

/-- The events raised at a moment stand behind those of `s`, in their order and each with the sequence counter as it
stands after the moment's work (R5, R168); those for which the queue of 32 has no room are discarded, and the overflow
mark then is set (R169). -/
def State.queues (s t : State) (raised : List Event) : Prop :=
  t.events = s.events
      ++ (raised.map fun e => ({ event := e, sequence := t.sequence } : EventRecord)).take (32 - s.events.length)
    ∧ (t.overflow = true ↔ s.overflow = true ∨ 32 - s.events.length < raised.length)

/-- What a strobe that is taken raises, kind by kind: from the state `s` before it and the state `t` after it, exactly
the events for which this holds (the catalogue of Control Link, 10.6; R2, R3, R11 to R13, R19, R20, R60, R61, R67, R87,
R92, R125, R144, R147, R153). -/
def strobeRaises (s t : State) : Event → Prop
  | .lanePresent l third =>
    (∃ previous acquired, (s.lanes.get l).receive = .acquiring previous acquired)
      ∧ (t.lanes.get l).receive = .present third
  | .laneLost l previous =>
    (∃ misses, (s.lanes.get l).receive = .lapsed previous misses) ∧ (t.lanes.get l).receive = .absent
      ∧ ((s.lanes.get l).finalMark = false ∨ (s.lanes.get l).frame ≠ none)
  | .laneWithdrawn l previous =>
    ((s.lanes.get l).receive = .present previous ∨ ∃ misses, (s.lanes.get l).receive = .lapsed previous misses)
      ∧ (s.lanes.get l).finalMark = true ∧ (s.lanes.get l).frame = none
  | .laneConflict l cause =>
    l = s.stationNumber ∧ s.stationName ≠ .conflict ∧ t.stationName = .conflict
      ∧ cause = if s.stationName = .starting then .listen else .echo
  | .strobeLost _ => False
  | .strobeBack name =>
    s.monitor.condition = .lost ∧ t.monitor.condition = .timed ∧ name = s.stationName
  | .stationRunning first => s.stationName = .starting ∧ t.stationName = .running ∧ first = s.sequence
  | .claimGained mix party =>
    ∃ (m : Fin 4) (i : Nat) (a b : Term), mix = s.mixTag m ∧ party = a.tag
      ∧ (s.mixes.get m).terms[i]? = some a ∧ (t.mixes.get m).terms[i]? = some b
      ∧ (a.status = some .waiting ∨ a.status = some .unheard) ∧ b.status = some .held
  | .claimLost mix party entered =>
    ∃ (m : Fin 4) (i : Nat) (a b : Term), mix = s.mixTag m ∧ party = a.tag
      ∧ (s.mixes.get m).terms[i]? = some a ∧ (t.mixes.get m).terms[i]? = some b
      ∧ a.status = some .held ∧ b.status = some entered ∧ entered ≠ .held
  | .claimDropped p mix =>
    (s.ports.get p).holder = some mix
      ∧ (s.lanes.get mix.station).receive ≠ .absent ∧ (t.lanes.get mix.station).receive = .absent
      ∧ (s.active = true ∨ s.stationName = .starting ∧ t.stationName = .running) ∧ t.stationName ≠ .conflict
      ∧ ((s.ports.get p).state = .outOfService ∨ (t.ports.get p).state ≠ .outOfService)
  | .partyActive p state =>
    (s.ports.get p).state = state ∧ (t.ports.get p).state = state ∧ (state = .screen ∨ state = .hold)
      ∧ (s.ports.get p).notice = true ∧ (s.ports.get p).armed = true ∧ (t.ports.get p).activity = true
  | .cancelMiss p mix cause =>
    t.active = true ∧ (t.ports.get p).served = true ∧ (s.ports.get p).missReported = false
      ∧ (({ s with directory := t.directory } : State).cancelMisses p).head? = some (mix, cause)
  | .groupFault g moved =>
    s.level g = false ∧ t.level g = true
      ∧ moved = ((portsOf g).filter fun p => (s.ports.get p).state != .outOfService).length
  | .groupClear g out =>
    s.level g = true ∧ t.level g = false
      ∧ out = ((portsOf g).filter fun p => (s.ports.get p).state == .outOfService).length
  | .withdrawDenied held => s.stationName = .withdrawing ∧ t.stationName = .running ∧ held = t.heldPorts
  | .withdrawDone cause finals => s.station = .closing cause finals ∧ t.stationName = .withdrawn
  | .testDone l result matched =>
    l = s.stationNumber ∧ t.station = .withdrawn none ∧ ∃ test, s.station = .withdrawn (some test)
      ∧ result = (test.judge (testVerdict s.sent (s.lanes.get s.stationNumber).frame)).result
      ∧ matched = (test.judge (testVerdict s.sent (s.lanes.get s.stationNumber).frame)).matched

/-! ## Ports and claims at a strobe -/

/-- A port's group fault input changes to asserted at a strobe (R60). -/
def State.faults (s : State) (inp : StrobeInput) (p : Fin 8) : Bool :=
  if p.val < 4 then !s.levelA && inp.faultA else !s.levelB && inp.faultB

/-- A mix asks for a port in the frame heard on its lane at a strobe (R91). -/
def State.asks (s : State) (p : Fin 8) (m : Tag) : Bool :=
  ((heardWants (s.blockFrames s.verdict) (s.portTag p) m.station).getD []).contains m

/-- A claim of a mix stands through the absence, release and removal of a strobe (R92 to R94): its lane does not go
ABSENT, and is unheard or asks. -/
def State.keepsClaim (s : State) (p : Fin 8) (m : Tag) : Bool :=
  !goesAbsent (s.lanes.get m.station) (s.blockFrame s.verdict m.station)
    && ((heardWants (s.blockFrames s.verdict) (s.portTag p) m.station).isNone || s.asks p m)

/-- The holder that a port keeps at a strobe: none where a group fault takes the port out (R60, R98). -/
def State.keptHolder (s : State) (inp : StrobeInput) (p : Fin 8) : Option Tag :=
  if s.faults inp p ∧ (s.ports.get p).state ≠ .outOfService then none
  else (s.ports.get p).holder.filter (s.keepsClaim p)

/-- The link has a response to clock out: at most three idle-fill bytes, then the mark, the result code, the data
length and the data (R158, R179). -/
def State.responds (t : State) (code : ResultCode) (data : List Byte) : Prop :=
  ∃ fill, fill ≤ 3 ∧ t.link.state = .response fill (responseBytes { code := code, data := data })

/-- The argument lengths that the request of a code takes (R157, R179). -/
def argLengths (code : Nat) : List Nat :=
  match code with
  | 1 => [0] | 2 => [0] | 3 => [0] | 4 => [1] | 5 => [0] | 6 => [1] | 7 => [0] | 8 => [0] | 9 => [0] | 10 => [1]
  | 11 => [2] | 12 => [1] | 13 => [1] | 14 => [6] | 15 => [1] | 16 => [5] | 17 => [3] | 18 => [1, 2, 3, 4] | 19 => [2]
  | 20 => [7] | 21 => [1] | 22 => [1] | 23 => [8] | 24 => [4] | 25 => [2] | 26 => [1] | 27 => [1] | 28 => [1]
  | 29 => [1] | _ => []

/-- A reset has begun at `t` from `s` (R18, R117, R167, R178; log entry 12): LOUT, CDOUT and the receivers are
released, the link's messages and the events are gone, the buffers are silent, and the rest stands until the reset's
end. -/
structure resetBegun (s t : State) : Prop where
  holds : t.inReset = true
  lout : t.lout = .released
  cdout : t.link.cdout = .released
  link : t.link.state = .deselected ∧ t.link.resetArmed = false ∧ t.link.cutCount = s.link.cutCount
  events : t.events = [] ∧ t.overflow = false ∧ t.attention = false
  audio : (∀ c, t.capture.get c = Block.zero) ∧ (∀ p, t.output.get p = Block.zero) ∧ ∀ n, t.adout.get n = 0
  lanes : ∀ l, t.lanes.get l = { s.lanes.get l with receiving := false }
  ports : t.ports = s.ports ∧ t.levelA = s.levelA ∧ t.levelB = s.levelB
  mixes : t.mixes = s.mixes
  station : t.station = s.station ∧ t.stationNumber = s.stationNumber ∧ t.sequence = s.sequence
    ∧ t.echoMismatch = s.echoMismatch ∧ t.monitor = s.monitor ∧ t.resetCause = s.resetCause
  records : t.directory = s.directory ∧ t.history = s.history ∧ t.pending = s.pending ∧ t.freeCount = s.freeCount

/-- The part as the end of a reset of a kind leaves it (R4, R18, R51, R70, R88, R105, R115, R128, R141, R156, R166,
R167): every field at its reset value, the straps read, the link DESELECTED or BARRED by CSEL_N, and what a receiver
has followed since the reset began still followed. -/
def resetEnded (s : State) (cause : ResetCause) (fin : ResetEnd) : State :=
  { State.reset with
    pending := s.pending
    freeCount := s.freeCount
    monitor := { condition := .timed, reference := some fin.instant, missed := 0, goodRun := 0 }
    stationNumber := fin.straps.toFin
    resetCause := cause
    lanes := tab fun l => { Lane.reset with receiving := (s.lanes.get l).receiving }
    link := { State.reset.link with
              state := if s.link.selected then .barred else .deselected, selected := s.link.selected } }

/-! ## Invariants: the settings of a port (R37, R51, R105 to R107, R128, R129) -/

/-- A recipe: at most 6 entries, no tag twice, gains in range (R106). -/
def recipeSound (recipe : List RecipeEntry) : Prop :=
  recipe.length ≤ 6 ∧ (recipe.map (·.tag)).Nodup ∧ ∀ e ∈ recipe, e.gain ≤ 32768

/-- No direct entry of a recipe names a tag of a minus set (R107). -/
def recipeClean (minus : List Tag) (recipe : List RecipeEntry) : Prop :=
  ∀ e ∈ recipe, e.tag.kind ≠ .mix → e.tag ∉ minus

/-- The settings and counts of a port are in their ranges. -/
structure Port.InRange (q : Port) : Prop where
  threshold : 1 ≤ q.threshold ∧ q.threshold ≤ 8388607
  quiet : q.quiet ≤ 600
  armed : q.armed = decide (q.quiet = 600)
  screen : recipeSound q.screenRecipe
  hold : recipeSound q.holdRecipe
  air : recipeSound q.airRecipe
  pad : q.pad ≤ 6
  misses : q.misses ≤ 65535
  saturations : q.saturations ≤ 65535
  talkGain : q.talkGain ≤ 32768
  duck : q.duck ≤ 8192
  period : 2 ≤ q.period ∧ q.period ≤ 30000
  onTime : q.onTime < q.period
  amplitude : q.amplitude ≤ 8388607
  counter : q.counter < q.period

/-- The minus extras are own PARTY or FEED tags, at most three, none twice and none the own tag (R105); and no tag of
the minus set can reach the return by a direct entry or the talkback source (R107). -/
structure State.Guarded (s : State) (p : Fin 8) : Prop where
  few : (s.ports.get p).extras.length ≤ 3
  once : (s.minusSet p).Nodup
  own : ∀ t ∈ (s.ports.get p).extras, t.station = s.stationNumber ∧ t.kind ≠ .mix
  screen : recipeClean (s.minusSet p) (s.ports.get p).screenRecipe
  hold : recipeClean (s.minusSet p) (s.ports.get p).holdRecipe
  air : recipeClean (s.minusSet p) (s.ports.get p).airRecipe
  source : ∀ t, (s.ports.get p).source = some t → t.kind ≠ .mix ∧ t ∉ s.minusSet p

/-- The settings of all ports are sound. -/
def State.SettingsSound (s : State) : Prop := ∀ p, (s.ports.get p).InRange ∧ s.Guarded p

/-! ## The claims (R88, R90, R95, R98, R131) -/

/-- A port's claim record, under its port state and the station state: 0 to 4 queued MIX tags, none twice and none the
holder; a holder only in AIR; both empty, and talkback off, in IDLE and OUT_OF_SERVICE; both empty unless the station
is RUNNING or WITHDRAWING. -/
structure Port.ClaimSound (q : Port) (active : Bool) : Prop where
  few : q.queue.length ≤ 4
  once : q.queue.Nodup
  apart : ∀ h, q.holder = some h → h ∉ q.queue
  mixes : ∀ m ∈ q.holder.toList ++ q.queue, m.kind = .mix
  held : q.holder ≠ none → q.state = .air
  idle : q.served = false → q.holder = none ∧ q.queue = [] ∧ q.talkback = false
  quiet : active = false → q.holder = none ∧ q.queue = []

/-- The claim records of all ports are sound. -/
def State.ClaimsSound (s : State) : Prop := ∀ p, (s.ports.get p).ClaimSound s.active

/-! ## The mixes (R70, R71) -/

/-- A mix: at most 48 terms, at most 16 of them PARTY, no MIX tag, no tag twice, coefficients in range, and a claim
status for exactly the PARTY terms. -/
structure Mix.Sound (x : Mix) : Prop where
  terms : x.terms.length ≤ 48
  parties : x.partyTerms ≤ 16
  once : (x.terms.map (·.tag)).Nodup
  sources : ∀ t ∈ x.terms, t.tag.kind ≠ .mix
  coefficients : ∀ t ∈ x.terms, t.coefficient ≤ 32768
  statuses : ∀ t ∈ x.terms, t.status.isSome = (t.tag.kind == .party)
  included : x.lastIncluded ≤ 48

/-- All four mixes are sound. -/
def State.MixesSound (s : State) : Prop := ∀ m, (s.mixes.get m).Sound

/-! ## The lanes and the directory (R11, R12, R24, R27, R28) -/

/-- An entry has the body of its channel's kind, and agrees with the receive state of its lane: none while the lane is
ABSENT, written at the last strobe in ACQUIRING and PRESENT, and as old as the misses in LAPSED. -/
def entrySound (receive : Receive) (channel : Fin 16) (e : Entry) : Prop :=
  (match kindOfChannel channel, e.body with
   | .party, .party _ _ _ _ => True
   | .feed, .feed => True
   | .mix, .mix _ => True
   | _, _ => False)
  ∧ match receive with
    | .absent => False
    | .acquiring _ _ => e.fresh = true ∧ e.age = 0
    | .present _ => e.fresh = true ∧ e.age = 0
    | .lapsed _ misses => e.fresh = false ∧ e.age = misses

/-- A receive state's counts lie where the tables of R11 and R12 leave them after a strobe. -/
def receiveSound (receive : Receive) : Prop :=
  match receive with
  | .acquiring _ acquired => 1 ≤ acquired ∧ acquired ≤ 2
  | .lapsed _ misses => 1 ≤ misses ∧ misses ≤ 7
  | _ => True

/-- The lanes and the directory agree. -/
def State.DirectorySound (s : State) : Prop :=
  ∀ l, receiveSound (s.lanes.get l).receive
    ∧ ∀ c e, (s.directory.get l).get c = some e → entrySound (s.lanes.get l).receive c e

/-! ## The books: queue, history, counts, LOUT (R2, R6, R10, R16, R19, R113, R114, R141, R159, R168, R169, R178) -/

/-- The records of the history are of consecutive sequences, oldest first (R114). -/
def consecutive : List HistoryRecord → Prop
  | a :: b :: rest => b.sequence = a.sequence + 1 ∧ consecutive (b :: rest)
  | _ => True

/-- The fields that a station state carries lie in their ranges (R19, R141, R153). -/
def stationSound (st : Station) : Prop :=
  match st with
  | .starting (some quiet) _ => quiet ≤ 15
  | .withdrawing timer => timer ≤ 29999
  | .closing _ finals => finals ≤ 8
  | .withdrawn (some test) =>
    test.sent ≤ 4 ∧ test.judged ≤ 3 ∧ test.judged ≤ test.sent ∧ test.sent ≤ test.judged + 1
      ∧ test.missing + test.differing ≤ test.judged
  | _ => True

/-- The five statistics of a lane are 16-bit counts (R10, R174). -/
def Lane.countsSound (lane : Lane) : Prop :=
  lane.good ≤ 65535 ∧ lane.checkFailures ≤ 65535 ∧ lane.stationMismatches ≤ 65535 ∧ lane.slips ≤ 65535
    ∧ lane.testFrames ≤ 65535

/-- The station states in which a station drives nothing on its lane (R6). -/
def sendsNothing (st : Station) : Bool :=
  match st with
  | .starting _ _ => true
  | .running => false
  | .withdrawing _ => false
  | .closing _ _ => false
  | .withdrawn test => test.isNone
  | .conflict => true
  | .untimed => true

/-- The part's counts, queues and records lie in their ranges, and LOUT is released where the station sends nothing. -/
structure State.BooksSound (s : State) : Prop where
  events : s.events.length ≤ 32
  overflow : s.overflow = true → s.events.length = 32
  history : s.history.length ≤ 8
  sequences : consecutive s.history
  feeds : ∀ r ∈ s.history, ∀ c : Fin 16, kindOfChannel c = .feed → c ∈ r.channels.map (·.1)
  channels : ∀ r ∈ s.history, ∀ c ∈ r.channels.map (·.1), kindOfChannel c ≠ .mix
  position : s.position ≤ 16
  lanes : ∀ l, (s.lanes.get l).countsSound
  cuts : s.link.cutCount ≤ 65535
  echoes : s.echoMismatch ≤ 3
  conflict : s.echoMismatch = 3 → s.station = .conflict
  station : stationSound s.station
  missed : s.monitor.missed ≤ 4
  timed : s.monitor.condition = .timed → s.monitor.missed ≤ 3
  goodRun : s.monitor.goodRun ≤ 4
  running : s.monitor.condition = .lost → s.monitor.reference ≠ none → s.monitor.goodRun ≤ 3
  lout : sendsNothing s.station = true → s.lout = .released

/-! ## The samples (R26, R36, R50, R51) -/

/-- Every sample of a block lies in the 24-bit sample range (R36). -/
def blockSound (b : Block) : Prop := ∀ n, -8388608 ≤ b.get n ∧ b.get n ≤ 8388607

/-- Every value of a block lies in the 28-bit wide range (R36). -/
def wideSound (b : Block) : Prop := ∀ n, -134217728 ≤ b.get n ∧ b.get n ≤ 134217727

/-- Every stored sample lies in the range of its kind. -/
structure State.SamplesSound (s : State) : Prop where
  capture : ∀ c, blockSound (s.capture.get c)
  output : ∀ p, blockSound (s.output.get p)
  history : ∀ r ∈ s.history, ∀ c ∈ r.channels, blockSound c.2
  directory : ∀ l c e, (s.directory.get l).get c = some e →
    if kindOfChannel c = .mix then wideSound e.samples else blockSound e.samples
  peaks : ∀ p, (s.ports.get p).peak ≤ 8388608

end Sys2Proof.Machine
end

