-- ==== Sys2Proof/Certificates/Slice0/Obligations.lean ====
section
/-! DEFINITION. The statements for the provers. Each docstring says which rules of spec/ the statement rests on. -/

open Sys2Proof Sys2Proof.Machine

/-! ## The machine and its queue -/

/-- A step runs the command at the front of the queue on the state with the queue's rest; an empty queue idles (log
entry 1, the model's choice). -/
def Obligations.StepTakesTheFrontCommand : Prop :=
  (∀ (c : Instr) (rest : List Instr) (s : State), s.pending = c :: rest →
    step s = exec c { s with pending := rest })
  ∧ ∀ s : State, s.pending = [] → step s = .next s

/-- Every command, in every state and with every operand, answers a next state whose queue is the one it was given:
the block raises no fault (INVENTORY.md, Faults) and commands act on everything but the queue. -/
def Obligations.NoCommandStopsOrQueues : Prop :=
  ∀ (c : Instr) (s : State), ∃ t, exec c s = .next t ∧ t.pending = s.pending

/-! ## Resets -/

/-- The state right after a reset has the values that R2, R5, R18, R23, R51, R70, R88, R105, R115, R128, R141, R167 and
R178 give; the other fields of State.reset are the model's choice (log entry 11) and no part of this. -/
def Obligations.ResetGivesTheSpecsValues : Prop :=
  let s := State.reset
  s.monitor.condition = .timed ∧ s.monitor.missed = 0 ∧ s.monitor.goodRun = 0 ∧ s.sequence = 0
  ∧ s.station = .starting none false ∧ s.echoMismatch = 0 ∧ s.lout = .released ∧ s.withdrawingFlag = false
  ∧ (∀ l, (s.lanes.get l).receive = .absent ∧ (s.lanes.get l).finalMark = false
      ∧ (s.lanes.get l).withdrawing = false ∧ (s.lanes.get l).good = 0 ∧ (s.lanes.get l).checkFailures = 0
      ∧ (s.lanes.get l).stationMismatches = 0 ∧ (s.lanes.get l).slips = 0 ∧ (s.lanes.get l).testFrames = 0)
  ∧ (∀ tag, s.entry tag = none)
  ∧ (∀ p, (s.ports.get p).state = .idle ∧ (s.ports.get p).choice = .mid ∧ (s.ports.get p).threshold = 131072
      ∧ (s.ports.get p).notice = false ∧ (s.ports.get p).peak = 0 ∧ (s.ports.get p).activity = false
      ∧ (s.ports.get p).quiet = 0 ∧ (s.ports.get p).armed = false ∧ (s.ports.get p).holder = none
      ∧ (s.ports.get p).queue = [])
  ∧ (∀ p, (s.ports.get p).screenRecipe = [] ∧ (s.ports.get p).holdRecipe = [] ∧ (s.ports.get p).airRecipe = []
      ∧ (s.ports.get p).extras = [] ∧ (s.ports.get p).pad = 0 ∧ (s.ports.get p).misses = 0
      ∧ (s.ports.get p).saturations = 0 ∧ (s.ports.get p).missReported = false)
  ∧ (∀ p, (s.ports.get p).source = none ∧ (s.ports.get p).talkGain = 8192 ∧ (s.ports.get p).duck = 2048
      ∧ (s.ports.get p).talkback = false ∧ (s.ports.get p).period = 3000 ∧ (s.ports.get p).onTime = 300
      ∧ (s.ports.get p).amplitude = 0 ∧ (s.ports.get p).counter = 0)
  ∧ s.levelA = false ∧ s.levelB = false
  ∧ (∀ m, (s.mixes.get m).live = false ∧ (s.mixes.get m).terms = [] ∧ (s.mixes.get m).lastIncluded = 0
      ∧ (s.mixes.get m).lastClip = false)
  ∧ s.history = [] ∧ s.events = [] ∧ s.overflow = false ∧ s.attention = false ∧ s.link.cutCount = 0
  ∧ (∀ c, s.capture.get c = Block.zero) ∧ (∀ p, s.output.get p = Block.zero)

/-- POWER_ON_RESET, RESET_PIN_ASSERT and COMMAND_RESET_BEGIN begin a reset (R18, R117, R165 to R167, R178). What stands
until the reset's end is the model's reading (log entry 12). -/
def Obligations.ResetsBegin : Prop :=
  ∀ s : State, s.inReset = false →
    (∃ t, exec .powerOnReset s = .next t ∧ resetBegun s t ∧ t.resets = { s.resets with power := true }
      ∧ t.link.selected = s.link.selected)
    ∧ (∃ t, exec .resetPinAssert s = .next t ∧ resetBegun s t ∧ t.resets = { s.resets with pin := true }
      ∧ t.link.selected = s.link.selected)
    ∧ (s.link.resetArmed = true → s.link.selected = true →
      (∀ fill rest, s.link.state = .response fill rest →
        ∃ t, exec (.commandResetBegin .responseEnds) s = .next t ∧ resetBegun s t
          ∧ t.resets = { s.resets with command := true } ∧ t.link.selected = true)
      ∧ ((∀ b bytes, s.link.state ≠ .request (b :: bytes)) → s.link.cutCount ≤ 65535 →
        ∃ t, exec (.commandResetBegin (.selectionEnds [])) s = .next t ∧ resetBegun s t
          ∧ t.resets = { s.resets with command := true } ∧ t.link.selected = false))

/-- POWER_ON_RELEASE, RESET_PIN_NEGATE and COMMAND_RESET_EXPIRY end the reset when no other holds: every field takes its
reset value, the straps are read and the reset cause is the kind that ended (R4, R18, R156, R166, R167). What the
receivers follow since the reset began stands (log entry 13), and so do the model's own two fields. -/
def Obligations.ResetsEnd : Prop :=
  ∀ (s : State) (fin : ResetEnd),
    (s.resets = { power := true, pin := false, command := false } →
      exec (.powerOnRelease fin) s = .next (resetEnded s .power fin))
    ∧ (s.resets = { power := false, pin := true, command := false } →
      exec (.resetPinNegate fin) s = .next (resetEnded s .pin fin))
    ∧ (s.resets = { power := false, pin := false, command := true } →
      exec (.commandResetExpiry fin) s = .next (resetEnded s .command fin))

/-- Resets that overlap make one reset, which lasts until none of them holds (R166); during it no strobe is taken (R1),
the link hears nothing (R167) and the card audio port is silent (R178). That a power-on reset ends the hold of a command
reset is the model's reading (log entry 14). -/
def Obligations.OverlappingResetsMakeOne : Prop :=
  ∀ s : State, s.inReset = true →
    (s.resets.power = false →
      exec .powerOnReset s = .next { s with resets := { s.resets with power := true, command := false } })
    ∧ (s.resets.pin = false → exec .resetPinAssert s = .next { s with resets := { s.resets with pin := true } })
    ∧ (∀ fin, s.resets.power = true → (s.resets.pin || s.resets.command) = true →
      exec (.powerOnRelease fin) s = .next { s with resets := { s.resets with power := false } })
    ∧ (∀ fin, s.resets.pin = true → (s.resets.power || s.resets.command) = true →
      exec (.resetPinNegate fin) s = .next { s with resets := { s.resets with pin := false } })
    ∧ (∀ fin, s.resets.command = true → (s.resets.power || s.resets.pin) = true →
      exec (.commandResetExpiry fin) s = .next { s with resets := { s.resets with command := false } })
    ∧ (∀ inp, exec (.blockStrobe inp) s = .next s)
    ∧ (∀ i code args, requestOf i = some (code, args) → exec i s = .next s)
    ∧ (∀ adin, exec (.sampleFrame adin) s = .next s)

/-! ## The control link -/

/-- SELECT begins a selection and DESELECT ends it, by the table of R156; a request that has begun and is not complete
is cut and counted (R159); CDOUT is released outside a selection (R155). The bytes a SELECT or a DESELECT carries are
clocked after the one and before the other (log entry 10): in DESELECTED, BARRED and a reset they are ignored, in DRAIN
CDOUT carries idle fill, and in REQUEST they are held while they make no complete request (R155 to R157, R167). -/
def Obligations.SelectionsOpenAndClose : Prop :=
  (∀ s : State, s.inReset = false →
    (s.link.selected = false →
      exec (.select []) s
        = .next { s with link := { s.link with state := .request [], selected := true, cdout := .driven none } })
    ∧ (s.link.selected = true → s.link.resetArmed = false →
      ∀ cuts, (cuts = match s.link.state with
        | .request (_ :: _) => min 65535 (s.link.cutCount + 1)
        | _ => s.link.cutCount) → s.link.cutCount ≤ 65535 →
      exec (.deselect []) s
        = .next { s with
            link := { s.link with state := .deselected, selected := false, cdout := .released, cutCount := cuts } })
    ∧ (∀ bytes : List Byte, s.link.selected = false →
      exec (.select bytes) s
        = .next (({ s with link := { s.link with
            state := .request [], selected := true, cdout := .driven none } } : State).clockAll bytes))
    ∧ (∀ bytes : List Byte, s.link.selected = true →
      exec (.deselect bytes) s = exec (.deselect []) (s.clockAll bytes))
    ∧ (∀ bytes : List Byte, s.link.state = .deselected ∨ s.link.state = .barred → s.clockAll bytes = s)
    ∧ (∀ bytes : List Byte, s.link.state = .drain → bytes ≠ [] →
      s.clockAll bytes = { s with link := { s.link with cdout := .driven (some 0) } })
    ∧ ∀ held bytes : List Byte, s.link.state = .request held → bytes ≠ [] → messageComplete (held ++ bytes) = false →
      ∃ last, s.clockAll bytes
        = { s with
            freeCount := s.freeCount + bytes.length
            link := { s.link with state := .request (held ++ bytes), cdout := .driven (some last) } })
  ∧ (∀ bytes : List Byte, messageComplete bytes = true ↔
      ∃ (code len : Byte) (args : List Byte), bytes = code :: len :: args ∧ len.toNat ≤ args.length)
  ∧ ∀ (s : State) (bytes : List Byte), s.inReset = true →
    s.clockAll bytes = s
    ∧ (s.link.selected = false → exec (.select bytes) s = .next { s with link := { s.link with selected := true } })
    ∧ (s.link.selected = true → exec (.deselect bytes) s = .next { s with link := { s.link with selected := false } })

/-- A request of `n` bytes answered is those bytes shifted in, its change made, and the link in RESPONSE with 0 to 3
idle-fill bytes, the mark 0xA5, the result code's byte, the data length and the data (R155 to R158, R160, R179). In
RESPONSE each byte clocked carries the next byte of the response on CDOUT, idle fill first, whatever CDIN holds; after
the last one the link is in DRAIN, as RESPONSE_END leaves it; and a selection that ends before it loses the rest of the
response, the request standing as taken (R156, R158). No reset is armed here. -/
def Obligations.ResponsesClockOut : Prop :=
  (∀ (s : State) (n : Nat), ∃ carried : Byte,
    s.received n = { s with freeCount := s.freeCount + n, link := { s.link with cdout := .driven (some carried) } })
  ∧ (∀ (s : State) (n : Nat) (change : State → State) (code : ResultCode) (data : List Byte),
    ∃ (fill : Nat) (result : Byte), fill ≤ 3
      ∧ (code, result) ∈ [(.ok, 0), (.adjusted, 1), (.refused, 2), (.conflict, 3), (.full, 4), (.notFound, 5),
          (.badArgument, 6), (.unknown, 7)]
      ∧ let u := change (s.received n)
        s.answered n change code data = { u with
          freeCount := u.freeCount + 1
          link := { u.link with state := .response fill (0xA5 :: result :: BitVec.ofNat 8 data.length :: data) } })
  ∧ ∀ (s : State) (fill : Nat) (rest : List Byte), s.inReset = false → s.link.resetArmed = false →
    s.link.state = .response fill rest → rest ≠ [] →
    exec .responseEnd s
      = .next { s with link := { s.link with state := .drain, cdout := .driven (some (rest.getLastD 0)) } }
    ∧ (∀ cdin : List Byte, cdin.length = fill + rest.length → exec .responseEnd s = .next (s.clockAll cdin))
    ∧ (∀ (cdin : List Byte) (b : Byte), cdin.length < fill + rest.length →
        (s.clockAll (cdin ++ [b])).link.cdout
          = .driven (some ((List.replicate fill 0 ++ rest).getD cdin.length 0)))
    ∧ (∀ (cdin : List Byte) (b : Byte), cdin.length + 1 < fill + rest.length →
        s.clockAll (cdin ++ [b])
          = { s with link := { s.link with
                state := .response (fill - (cdin.length + 1)) (rest.drop (cdin.length + 1 - fill))
                cdout := .driven (some ((List.replicate fill 0 ++ rest).getD cdin.length 0)) } })
    ∧ (∀ (cdin : List Byte) (b : Byte), fill + rest.length ≤ cdin.length →
        s.clockAll (cdin ++ [b])
          = { s with link := { s.link with state := .drain, cdout := .driven (some 0) } })
    ∧ ∀ cdin : List Byte, s.link.selected = true → s.link.cutCount ≤ 65535 →
        exec (.deselect cdin) s
          = .next { s with link := { s.link with state := .deselected, selected := false, cdout := .released } }

/-- A request command and the message it clocks name each other: the command of a message has that message's code and
arguments, and a well-formed request is the command of its own message; running it is clocking the message (R157, R179).
The code of each request is its place in the gathering table (R161, R179). That the two rows of WITHDRAW split by the
mode byte is the model's choice of names (log entry 20). -/
def Obligations.RequestsAreTheirMessages : Prop :=
  (∀ (i : Instr) (code : Byte) (args : List Byte), WellFormed i = true → requestOf i = some (code, args) →
    commandOfMessage code args = i
    ∧ ∀ s, exec i s = .next (s.clockAll (code :: BitVec.ofNat 8 args.length :: args)))
  ∧ (∀ (code : Byte) (args : List Byte), args.length ≤ 255 →
    requestOf (commandOfMessage code args) = some (code, args) ∧ WellFormed (commandOfMessage code args) = true)
  ∧ ∀ args : List Byte,
    [.status args, .stationReset args, .clearCounts args, .laneStats args, .readEvent args, .withdrawNormal args,
        .withdrawForced args, .rejoin args, .laneTest args, .directoryList args, .directoryQuery args, .setState args,
        .portClear args, .groupRestore args, .setMonitor args, .portQuery args, .setEntry args, .removeEntry args,
        .setMinus args, .setPad args, .setTalkback args, .talkbackOn args, .talkbackOff args, .setCadence args,
        .setTerm args, .removeTerm args, .clearMix args, .mixOn args, .mixOff args, .mixQuery args].map requestOf
      = [1, 2, 3, 4, 5, 6, 6, 7, 8, 9, 10, 11, 12, 13, 14, 15, 16, 17, 18, 19, 20, 21, 22, 23, 24, 25, 26, 27, 28,
          29].map fun place : Byte => some (place, args)

/-- UNKNOWN_REQUEST: a complete request whose code names none is answered UNKNOWN; one whose argument length does not
fit the request named is answered BAD_ARGUMENT. Neither changes anything else (R157, R160). -/
def Obligations.FaultyRequestsChangeNothing : Prop :=
  ∀ (s : State) (code : Byte) (args : List Byte), s.ready → args.length ≤ 255 →
    ((code.toNat = 0 ∨ 30 ≤ code.toNat) →
      exec (.unknownRequest code args) s = .next (s.answered (args.length + 2) id .unknown []))
    ∧ (1 ≤ code.toNat → code.toNat ≤ 29 → args.length ∉ argLengths code.toNat →
      exec (commandOfMessage code args) s = .next (s.answered (args.length + 2) id .badArgument []))

/-! ## Station requests -/

/-- STATUS, LANE STATS, DIRECTORY LIST, DIRECTORY QUERY, PORT QUERY and MIX QUERY answer with the fields of their
entries, byte by byte as the tables of R180 lay them out with their presence bytes, and change no state (R33, R34, R69,
R76, R103, R127, R140, R162, R163, R180). -/
def Obligations.QueriesAnswerAndChangeNothing : Prop :=
  (∀ s : State, s.ready →
    exec (.status []) s = .next (s.answered 2 id .ok (statusData s))
    ∧ (∀ (b : Byte) (l : Fin 16), b.toNat = l.val →
      exec (.laneStats [b]) s = .next (s.answered 3 id .ok (laneStatsData (s.lanes.get l))))
    ∧ (∀ b : Byte, 16 ≤ b.toNat → exec (.laneStats [b]) s = .next (s.answered 3 id .badArgument []))
    ∧ (∃ maps : List Byte, exec (.directoryList []) s = .next (s.answered 2 id .ok maps) ∧ maps.length = 32
      ∧ ∀ l c : Fin 16, (nat2At maps (2 * l.val)).testBit c.val
          = (s.entry { station := l, channel := c }).isSome)
    ∧ (∀ (b : Byte) (e : Entry), s.entry (tagOfByte b) = some e →
      exec (.directoryQuery [b]) s = .next (s.answered 3 id .ok (entryData e)))
    ∧ (∀ b : Byte, s.entry (tagOfByte b) = none →
      exec (.directoryQuery [b]) s = .next (s.answered 3 id .notFound []))
    ∧ (∀ (b : Byte) (p : Fin 8), b.toNat = p.val →
      exec (.portQuery [b]) s = .next (s.answered 3 id .ok (portData s p)))
    ∧ (∀ b : Byte, 8 ≤ b.toNat → exec (.portQuery [b]) s = .next (s.answered 3 id .badArgument []))
    ∧ (∀ (b : Byte) (m : Fin 4), b.toNat = m.val →
      exec (.mixQuery [b]) s = .next (s.answered 3 id .ok (mixData (s.mixes.get m))))
    ∧ (∀ b : Byte, 4 ≤ b.toNat → exec (.mixQuery [b]) s = .next (s.answered 3 id .badArgument [])))
  ∧ (∀ s : State,
    let data := statusData s
    data.length = 24
    ∧ (s.stationName, (byteAt data 0).toNat) ∈ [(.starting, 0), (.running, 1), (.withdrawing, 2), (.closing, 3),
        (.withdrawn, 4), (.conflict, 5), (.untimed, 6)]
    ∧ (byteAt data 1).toNat = s.stationNumber.val ∧ nat2At data 2 = s.sequence.toNat
    ∧ (s.resetCause, (byteAt data 4).toNat) ∈ [(.power, 0), (.pin, 1), (.command, 2)]
    ∧ (s.monitor.condition, (byteAt data 5).toNat) ∈ [(.timed, 0), (.lost, 1)]
    ∧ byteAt data 6 = BitVec.ofNat 8 s.echoMismatch
    ∧ ((∃ quiet heard, s.station = .starting (some quiet) heard ∧ byteAt data 7 = 1
          ∧ byteAt data 8 = BitVec.ofNat 8 quiet)
      ∨ (∀ quiet heard, s.station ≠ .starting (some quiet) heard) ∧ byteAt data 7 = 0 ∧ byteAt data 8 = 0)
    ∧ ((∃ timer, s.station = .withdrawing timer ∧ byteAt data 9 = 1 ∧ nat2At data 10 = timer % 65536)
      ∨ (∀ timer, s.station ≠ .withdrawing timer) ∧ byteAt data 9 = 0 ∧ nat2At data 10 = 0)
    ∧ ((∃ cause finals, s.station = .closing cause finals ∧ byteAt data 12 = 1
          ∧ byteAt data 13 = (if cause = .normal then 0 else 1) ∧ byteAt data 14 = BitVec.ofNat 8 finals)
      ∨ (∀ cause finals, s.station ≠ .closing cause finals) ∧ byteAt data 12 = 0 ∧ nat2At data 13 = 0)
    ∧ ((∃ test, s.station = .withdrawn (some test) ∧ byteAt data 15 = 1 ∧ byteAt data 16 = BitVec.ofNat 8 test.sent
          ∧ byteAt data 17 = BitVec.ofNat 8 test.judged ∧ byteAt data 18 = BitVec.ofNat 8 test.missing
          ∧ byteAt data 19 = BitVec.ofNat 8 test.differing)
      ∨ (∀ test, s.station ≠ .withdrawn (some test)) ∧ byteAt data 15 = 0 ∧ nat2At data 16 = 0 ∧ nat2At data 18 = 0)
    ∧ byteAt data 20 = BitVec.ofNat 8 s.events.length ∧ byteAt data 21 = (if s.overflow then 1 else 0)
    ∧ nat2At data 22 = s.link.cutCount % 65536)
  ∧ (∀ lane : Lane,
    let data := laneStatsData lane
    data.length = 18
    ∧ (lane.receive = .absent → byteAt data 0 = 0 ∧ byteAt data 1 = 0 ∧ nat2At data 2 = 0 ∧ nat2At data 4 = 0)
    ∧ (∀ previous acquired, lane.receive = .acquiring previous acquired → byteAt data 0 = 1 ∧ byteAt data 1 = 1
        ∧ nat2At data 2 = previous.toNat ∧ byteAt data 4 = 1 ∧ byteAt data 5 = BitVec.ofNat 8 acquired)
    ∧ (∀ previous, lane.receive = .present previous → byteAt data 0 = 2 ∧ byteAt data 1 = 1
        ∧ nat2At data 2 = previous.toNat ∧ nat2At data 4 = 0)
    ∧ (∀ previous misses, lane.receive = .lapsed previous misses → byteAt data 0 = 3 ∧ byteAt data 1 = 1
        ∧ nat2At data 2 = previous.toNat ∧ byteAt data 4 = 1 ∧ byteAt data 5 = BitVec.ofNat 8 misses)
    ∧ byteAt data 6 = (if lane.finalMark then 1 else 0) ∧ byteAt data 7 = (if lane.withdrawing then 1 else 0)
    ∧ nat2At data 8 = lane.good % 65536 ∧ nat2At data 10 = lane.checkFailures % 65536
    ∧ nat2At data 12 = lane.stationMismatches % 65536 ∧ nat2At data 14 = lane.slips % 65536
    ∧ nat2At data 16 = lane.testFrames % 65536)
  ∧ (∀ e : Entry,
    let data := entryData e
    nat2At data 1 = e.sequence.toNat ∧ byteAt data 3 = (if e.fresh then 1 else 0) ∧ nat2At data 4 = e.age % 65536
    ∧ (∀ state activity holder count, e.body = .party state activity holder count →
        data.length = 11 ∧ byteAt data 0 = 0
        ∧ (state, (byteAt data 6).toNat) ∈ [(.idle, 0), (.screen, 1), (.hold, 2), (.air, 3), (.outOfService, 4)]
        ∧ byteAt data 7 = (if activity then 1 else 0)
        ∧ (byteAt data 8, byteAt data 9) = (match holder with | none => (0, 0) | some h => (1, tagByte h))
        ∧ byteAt data 10 = BitVec.ofNat 8 count)
    ∧ (e.body = .feed → data.length = 6 ∧ byteAt data 0 = 1)
    ∧ ∀ record, e.body = .mix record →
        data.length = 10 + 3 * record.stamps.length + 3 * record.terms.length ∧ byteAt data 0 = 2
        ∧ (byteAt data 6).toNat = record.channel.val ∧ byteAt data 7 = BitVec.ofNat 8 record.terms.length
        ∧ byteAt data 8 = BitVec.ofNat 8 record.stamps.length
        ∧ (∀ (i : Nat) (stamp : Fin 16 × Seq), record.stamps[i]? = some stamp →
          (byteAt data (9 + 3 * i)).toNat = stamp.1.val ∧ nat2At data (10 + 3 * i) = stamp.2.toNat)
        ∧ (∀ (i : Nat) (term : Tag × Nat), record.terms[i]? = some term →
          byteAt data (9 + 3 * record.stamps.length + 3 * i) = tagByte term.1
          ∧ nat2At data (10 + 3 * record.stamps.length + 3 * i) = term.2 % 65536)
        ∧ byteAt data (9 + 3 * record.stamps.length + 3 * record.terms.length) = (if record.clip then 1 else 0))
  ∧ (∀ (s : State) (p : Fin 8),
    let q := s.ports.get p
    let data := portData s p
    let recipes := 18 + q.queue.length
    let hold := recipes + 1 + 3 * q.screenRecipe.length
    let air := hold + 1 + 3 * q.holdRecipe.length
    let minus := air + 1 + 3 * q.airRecipe.length
    let pad := minus + 2 + q.extras.length
    data.length = pad + 22
    ∧ (q.state, (byteAt data 0).toNat) ∈ [(.idle, 0), (.screen, 1), (.hold, 2), (.air, 3), (.outOfService, 4)]
    ∧ byteAt data 1 = (if p.val < 4 then 0 else 1)
    ∧ (q.choice, (byteAt data 2).toNat) ∈ [(.low, 0), (.mid, 1), (.high, 2), (.set, 3)]
    ∧ nat3 (byteAt data 3) (byteAt data 4) (byteAt data 5) = q.threshold % 16777216
    ∧ byteAt data 6 = (if q.notice then 1 else 0)
    ∧ nat3 (byteAt data 7) (byteAt data 8) (byteAt data 9) = q.peak % 16777216
    ∧ byteAt data 10 = (if q.activity then 1 else 0) ∧ nat2At data 11 = q.quiet % 65536
    ∧ byteAt data 13 = (if q.armed then 1 else 0)
    ∧ byteAt data 14 = (if (if p.val < 4 then s.levelA else s.levelB) then 1 else 0)
    ∧ (byteAt data 15, byteAt data 16) = (match q.holder with | none => (0, 0) | some h => (1, tagByte h))
    ∧ byteAt data 17 = BitVec.ofNat 8 q.queue.length
    ∧ (∀ (i : Nat) (m : Tag), q.queue[i]? = some m → byteAt data (18 + i) = tagByte m)
    ∧ (∀ start recipe, (start, recipe) ∈ [(recipes, q.screenRecipe), (hold, q.holdRecipe), (air, q.airRecipe)] →
        byteAt data start = BitVec.ofNat 8 recipe.length
        ∧ ∀ (i : Nat) (e : RecipeEntry), recipe[i]? = some e →
          byteAt data (start + 1 + 3 * i) = tagByte e.tag ∧ nat2At data (start + 2 + 3 * i) = e.gain % 65536)
    ∧ byteAt data minus = BitVec.ofNat 8 (1 + q.extras.length) ∧ byteAt data (minus + 1) = tagByte (s.portTag p)
    ∧ (∀ (i : Nat) (tag : Tag), q.extras[i]? = some tag → byteAt data (minus + 2 + i) = tagByte tag)
    ∧ byteAt data pad = BitVec.ofNat 8 q.pad ∧ nat2At data (pad + 1) = q.misses % 65536
    ∧ nat2At data (pad + 3) = q.saturations % 65536 ∧ byteAt data (pad + 5) = (if q.missReported then 1 else 0)
    ∧ (byteAt data (pad + 6), byteAt data (pad + 7))
        = (match q.source with | none => (0, 0) | some h => (1, tagByte h))
    ∧ nat2At data (pad + 8) = q.talkGain % 65536 ∧ nat2At data (pad + 10) = q.duck % 65536
    ∧ byteAt data (pad + 12) = (if q.talkback then 1 else 0) ∧ nat2At data (pad + 13) = q.period % 65536
    ∧ nat2At data (pad + 15) = q.onTime % 65536
    ∧ nat3 (byteAt data (pad + 17)) (byteAt data (pad + 18)) (byteAt data (pad + 19)) = q.amplitude % 16777216
    ∧ nat2At data (pad + 20) = q.counter % 65536)
  ∧ ∀ x : Mix,
    let data := mixData x
    data.length = 5 + 5 * x.terms.length
    ∧ byteAt data 0 = (if x.live then 1 else 0) ∧ byteAt data 1 = BitVec.ofNat 8 x.terms.length
    ∧ byteAt data 2 = BitVec.ofNat 8 (x.terms.filter fun e => e.tag.kind == .party).length
    ∧ byteAt data 3 = BitVec.ofNat 8 x.lastIncluded ∧ byteAt data 4 = (if x.lastClip then 1 else 0)
    ∧ ∀ (i : Nat) (e : Term), x.terms[i]? = some e →
      byteAt data (5 + 5 * i) = tagByte e.tag ∧ nat2At data (6 + 5 * i) = e.coefficient % 65536
      ∧ (e.status, (byteAt data (8 + 5 * i)).toNat, (byteAt data (9 + 5 * i)).toNat)
          ∈ [(none, 0, 0), (some .held, 1, 0), (some .waiting, 1, 1), (some .unheard, 1, 2)]

/-- STATION RESET is answered OK and its reset does not begin at acceptance (R165); it begins when the last byte of the
response has been clocked out, or when the selection ends. -/
def Obligations.StationResetWaitsForItsResponse : Prop :=
  ∀ s : State, s.ready → s.link.selected = true →
    ∃ t, exec (.stationReset []) s = .next t
      ∧ t = s.answered 2 (fun u => { u with link := { u.link with resetArmed := true } }) .ok []
      ∧ t.inReset = false
      ∧ (∃ u, exec .responseEnd t = .next u ∧ u.resets = { s.resets with command := true } ∧ u.inReset = true)
      ∧ ∃ u, exec (.deselect []) t = .next u ∧ u.resets = { s.resets with command := true } ∧ u.inReset = true

/-- CLEAR COUNTS sets the eighty lane statistics, every port's miss and saturation counts and the cut count to 0 and
clears the miss-reported flags, and leaves everything else (R164). -/
def Obligations.ClearCountsZeroesTheCounts : Prop :=
  ∀ s : State, s.ready →
    exec (.clearCounts []) s
      = .next (s.answered 2 (fun u => { u with
          lanes := tab fun l => { u.lanes.get l with
            good := 0, checkFailures := 0, stationMismatches := 0, slips := 0, testFrames := 0 }
          ports := tab fun p => { u.ports.get p with misses := 0, saturations := 0, missReported := false }
          link := { u.link with cutCount := 0 } }) .ok [])

/-- READ EVENT takes the oldest record and reports and clears the overflow mark; on an empty queue it is answered
NOT_FOUND with the mark (R171, R179). A record's six bytes are its kind's place in the catalogue of Control Link, its
sequence, its subject and its detail, as the tables of R179 lay them out for each of the seventeen kinds. -/
def Obligations.ReadEventTakesTheOldest : Prop :=
  (∀ s : State, s.ready →
    (s.events = [] →
      exec (.readEvent []) s
        = .next (s.answered 2 (fun u => { u with overflow := false }) .notFound [if s.overflow then 1 else 0]))
    ∧ ∀ (oldest : EventRecord) (rest : List EventRecord), s.events = oldest :: rest →
      exec (.readEvent []) s
        = .next (s.answered 2 (fun u => { u with events := rest, overflow := false }) .ok
            (eventBytes oldest ++ [if s.overflow then 1 else 0])))
  ∧ ∀ r : EventRecord,
    let data := eventBytes r
    let head := fun kind subject : Nat => (byteAt data 0).toNat = kind ∧ (byteAt data 3).toNat = subject
    let state := fun name : StationName => byteAt data 5 = 0
      ∧ (name, byteAt data 4) ∈ [(.starting, 0), (.running, 1), (.withdrawing, 2), (.closing, 3), (.withdrawn, 4),
          (.conflict, 5), (.untimed, 6)]
    data.length = 6 ∧ nat2At data 1 = r.sequence.toNat
    ∧ match r.event with
      | .lanePresent lane third => head 1 lane.val ∧ nat2At data 4 = third.toNat
      | .laneLost lane previous => head 2 lane.val ∧ nat2At data 4 = previous.toNat
      | .laneWithdrawn lane previous => head 3 lane.val ∧ nat2At data 4 = previous.toNat
      | .laneConflict lane cause =>
        head 4 lane.val ∧ (cause, byteAt data 4) ∈ [(.listen, 0), (.echo, 1)] ∧ byteAt data 5 = 0
      | .strobeLost name => head 5 0 ∧ state name
      | .strobeBack name => head 6 0 ∧ state name
      | .stationRunning first => head 7 0 ∧ nat2At data 4 = first.toNat
      | .claimGained mix party =>
        head 8 (16 * mix.station.val + mix.channel.val) ∧ byteAt data 4 = tagByte party ∧ byteAt data 5 = 0
      | .claimLost mix party entered =>
        head 9 (16 * mix.station.val + mix.channel.val) ∧ byteAt data 4 = tagByte party
        ∧ (entered ≠ .held → (entered, byteAt data 5) ∈ [(.waiting, 0), (.unheard, 1)])
      | .claimDropped port mix => head 10 port.val ∧ byteAt data 4 = tagByte mix ∧ byteAt data 5 = 0
      | .partyActive port was =>
        head 11 port.val ∧ byteAt data 5 = 0
        ∧ (was = .screen ∨ was = .hold → (was, byteAt data 4) ∈ [(.screen, 1), (.hold, 2)])
      | .cancelMiss port mix cause =>
        head 12 port.val ∧ byteAt data 4 = tagByte mix
        ∧ (cause, byteAt data 5) ∈ [(.clipped, 0), (.unrecorded, 1), (.incomplete, 2)]
      | .groupFault group moved =>
        head 13 (if group = .a then 0 else 1) ∧ byteAt data 4 = BitVec.ofNat 8 moved ∧ byteAt data 5 = 0
      | .groupClear group out =>
        head 14 (if group = .a then 0 else 1) ∧ byteAt data 4 = BitVec.ofNat 8 out ∧ byteAt data 5 = 0
      | .withdrawDenied held => head 15 0 ∧ byteAt data 4 = BitVec.ofNat 8 held ∧ byteAt data 5 = 0
      | .withdrawDone cause finals =>
        head 16 0 ∧ (cause, byteAt data 4) ∈ [(.normal, 0), (.forced, 1)] ∧ byteAt data 5 = BitVec.ofNat 8 finals
      | .testDone lane result matched =>
        head 17 lane.val ∧ byteAt data 5 = BitVec.ofNat 8 matched
        ∧ (result, byteAt data 4) ∈ [(.pass, 0), (.mismatch, 1), (.noEcho, 2), (.aborted, 3)]

/-- A READ EVENT and the raising of an event that fall together, in both orders, row by row of R172. -/
def Obligations.ReadAndRaiseInBothOrders : Prop :=
  ∀ (s : State) (e : Event), s.ready → s.events.length ≤ 32 →
    ∃ a b new, exec (.readEvent []) s = .next a ∧ exec (.readEvent []) (s.raise e) = .next b
      ∧ new = ({ event := e, sequence := s.sequence } : EventRecord)
      ∧ (s.events = [] →
        a.responds .notFound [if s.overflow then 1 else 0] ∧ (a.raise e).events = [new]
        ∧ b.responds .ok (eventBytes new ++ [if s.overflow then 1 else 0]) ∧ b.events = [])
      ∧ (∀ oldest rest, s.events = oldest :: rest → s.events.length < 32 →
        a.responds .ok (eventBytes oldest ++ [if s.overflow then 1 else 0]) ∧ (a.raise e).events = rest ++ [new]
        ∧ b.responds .ok (eventBytes oldest ++ [if s.overflow then 1 else 0]) ∧ b.events = rest ++ [new])
      ∧ (∀ oldest rest, s.events = oldest :: rest → s.events.length = 32 →
        a.responds .ok (eventBytes oldest ++ [if s.overflow then 1 else 0]) ∧ a.overflow = false
        ∧ (a.raise e).events = rest ++ [new] ∧ (a.raise e).overflow = false
        ∧ (s.raise e).events = s.events ∧ (s.raise e).overflow = true
        ∧ b.responds .ok (eventBytes oldest ++ [1]) ∧ b.events = rest ∧ b.overflow = false)
      ∧ (a.raise e).events.length ≤ 32 ∧ b.events.length ≤ 32

/-- WITHDRAW in both modes (R142, R143, R146, R58, R77, R99, R117, R131): NORMAL moves a RUNNING station to WITHDRAWING
with the timer at 0; FORCED moves a RUNNING or WITHDRAWING station to CLOSING, where its ports go IDLE, its claims are
emptied, talkback goes off, its mixes go OFF and its returns are silent; every other case changes nothing. -/
def Obligations.WithdrawMovesTheStation : Prop :=
  ∀ s : State, s.ready →
    (s.station = .running →
      exec (.withdrawNormal [0]) s = .next (s.answered 3 (fun u => { u with station := .withdrawing 0 }) .ok []))
    ∧ (s.station ≠ .running → exec (.withdrawNormal [0]) s = .next (s.answered 3 id .refused []))
    ∧ (∀ mode : Byte, 2 ≤ mode.toNat →
      exec (.withdrawNormal [mode]) s = .next (s.answered 3 id .badArgument []))
    ∧ ((s.station = .running ∨ ∃ timer, s.station = .withdrawing timer) →
      exec (.withdrawForced [1]) s
        = .next (s.answered 3 (fun u => { u with
            station := .closing .forced 0
            ports := tab fun p =>
              let q := { u.ports.get p with holder := none, queue := [], talkback := false }
              if q.state = .outOfService ∨ q.state = .idle then q
              else { q with state := .idle, peak := 0, activity := false, quiet := 0, armed := false }
            mixes := tab fun m => { u.mixes.get m with live := false }
            output := Vector.replicate 8 Block.zero }) .ok []))
    ∧ (s.station ≠ .running → (∀ timer, s.station ≠ .withdrawing timer) →
      exec (.withdrawForced [1]) s = .next (s.answered 3 id .refused []))

/-- REJOIN and LANE TEST are accepted in WITHDRAWN with no test running and a TIMED monitor, and refused otherwise
(R151, R152). That an accepted LANE TEST drives LOUT with idle fill until its first frame is the model's reading (log
entry 16). -/
def Obligations.RejoinAndLaneTestStart : Prop :=
  ∀ s : State, s.ready →
    (s.station = .withdrawn none → s.monitor.condition = .timed →
      exec (.rejoin []) s
        = .next (s.answered 2 (fun u => { u with station := .starting none false, echoMismatch := 0 }) .ok [])
      ∧ exec (.laneTest []) s
        = .next (s.answered 2 (fun u => { u with
            station := .withdrawn (some { sent := 0, judged := 0, missing := 0, differing := 0 })
            lout := .driven [] }) .ok []))
    ∧ (s.station ≠ .withdrawn none ∨ s.monitor.condition = .lost →
      exec (.rejoin []) s = .next (s.answered 2 id .refused [])
      ∧ exec (.laneTest []) s = .next (s.answered 2 id .refused []))

/-! ## Port requests -/

/-- SET STATE, decided in the order of R54, with the effects of R55, R96, R97 and R131 on the claims, the talkback, the
cadence counter and the level monitor. -/
def Obligations.SetStateChangesThePort : Prop :=
  ∀ (s : State) (b c : Byte) (p : Fin 8) (target : PortState), s.ready → b.toNat = p.val →
    (4 ≤ c.toNat → exec (.setState [b, c]) s = .next (s.answered 4 id .badArgument []))
    ∧ (∀ far : Byte, 8 ≤ far.toNat → exec (.setState [far, c]) s = .next (s.answered 4 id .badArgument []))
    ∧ ((c.toNat = 0 ∧ target = .idle ∨ c.toNat = 1 ∧ target = .screen ∨ c.toNat = 2 ∧ target = .hold
        ∨ c.toNat = 3 ∧ target = .air) →
      ((s.stationName = .closing ∨ s.stationName = .withdrawn ∨ (s.ports.get p).state = .outOfService) →
        exec (.setState [b, c]) s = .next (s.answered 4 id .refused []))
      ∧ (s.stationName ≠ .closing → s.stationName ≠ .withdrawn → (s.ports.get p).state ≠ .outOfService →
        ((s.ports.get p).state = target → exec (.setState [b, c]) s = .next (s.answered 4 id .ok []))
        ∧ ((s.ports.get p).state ≠ target →
          exec (.setState [b, c]) s = .next (s.answered 4 (fun u => u.updPort p fun q => { q with
            state := target
            holder := if target = .idle ∨ q.state = .air then none else q.holder
            queue := if target = .idle then []
              else match q.state, q.holder with
                | .air, some h => (h :: q.queue).take 4
                | _, _ => q.queue
            talkback := if target = .idle then false else q.talkback
            counter := if target = .hold then 0 else q.counter
            peak := if target = .idle ∨ q.state = .idle then 0 else q.peak
            activity := if target = .idle ∨ q.state = .idle then false else q.activity
            quiet := if target = .idle ∨ q.state = .idle then 0 else q.quiet
            armed := if target = .idle ∨ q.state = .idle then false else q.armed }) .ok []))))

/-- PORT CLEAR puts a served port to IDLE and empties its claims, talkback, counts and monitor in every station and port
state, an OUT_OF_SERVICE port staying out of service, and keeps every setting (R63, R64, R98, R125, R131). -/
def Obligations.PortClearKeepsSettings : Prop :=
  ∀ (s : State) (b : Byte), s.ready →
    (∀ p : Fin 8, b.toNat = p.val →
      exec (.portClear [b]) s = .next (s.answered 3 (fun u => u.updPort p fun q => { q with
        state := if q.state = .outOfService then .outOfService else .idle
        holder := none, queue := [], talkback := false, misses := 0, saturations := 0, missReported := false
        peak := 0, activity := false, quiet := 0, armed := false }) .ok []))
    ∧ (8 ≤ b.toNat → exec (.portClear [b]) s = .next (s.answered 3 id .badArgument []))

/-- GROUP RESTORE, in the order of R62: with the recorded level negated and a port out of service, every OUT_OF_SERVICE
port of the group goes to IDLE with its monitor reset, no claims and talkback off, and their number is answered. -/
def Obligations.GroupRestoreReturnsThePorts : Prop :=
  ∀ (s : State) (b : Byte), s.ready →
    (2 ≤ b.toNat → exec (.groupRestore [b]) s = .next (s.answered 3 id .badArgument []))
    ∧ ∀ (g : Group) (n : Nat), (b = 0 ∧ g = .a ∨ b = 1 ∧ g = .b) →
      n = ((List.finRange 8).filter fun p =>
        (decide (p.val < 4) == (g == .a)) && (s.ports.get p).state == .outOfService).length →
      (((if g = .a then s.levelA else s.levelB) = true ∨ n = 0) →
        exec (.groupRestore [b]) s = .next (s.answered 3 id .refused []))
      ∧ ((if g = .a then s.levelA else s.levelB) = false → n ≠ 0 →
        exec (.groupRestore [b]) s = .next (s.answered 3 (fun u => { u with
          ports := tab fun p =>
            let q := u.ports.get p
            if (decide (p.val < 4) = (g == .a)) ∧ q.state = .outOfService then
              { q with state := .idle, holder := none, queue := [], talkback := false
                       peak := 0, activity := false, quiet := 0, armed := false }
            else q }) .ok [BitVec.ofNat 8 n]))

/-- SET MONITOR stores choice, threshold and notice (R68, with the clamp of R38) and leaves peak, activity, quiet count
and armed as they are. That notice 0 is on and 1 is off is DEDUCED (log entry 19). -/
def Obligations.SetMonitorStoresTheThreshold : Prop :=
  ∀ (s : State) (b c h2 h1 h0 n : Byte) (p : Fin 8) (host : Nat), s.ready → b.toNat = p.val →
    host = h2.toNat * 65536 + h1.toNat * 256 + h0.toNat →
    (∀ (choice : ThresholdChoice) (threshold : Nat), n.toNat ≤ 1 →
      (c.toNat = 0 ∧ choice = .low ∧ threshold = 65536 ∨ c.toNat = 1 ∧ choice = .mid ∧ threshold = 131072
        ∨ c.toNat = 2 ∧ choice = .high ∧ threshold = 262144
        ∨ c.toNat = 3 ∧ choice = .set
          ∧ threshold = if host = 0 then 1 else if 8388607 < host then 8388607 else host) →
      exec (.setMonitor [b, c, h2, h1, h0, n]) s
        = .next (s.answered 8 (fun u => u.updPort p fun q => { q with
            choice := choice, threshold := threshold, notice := n.toNat == 0 })
            (if choice = .set ∧ threshold ≠ host then .adjusted else .ok) []))
    ∧ (4 ≤ c.toNat ∨ 2 ≤ n.toNat →
      exec (.setMonitor [b, c, h2, h1, h0, n]) s = .next (s.answered 8 id .badArgument []))
    ∧ ∀ far : Byte, 8 ≤ far.toNat →
      exec (.setMonitor [far, c, h2, h1, h0, n]) s = .next (s.answered 8 id .badArgument [])

/-- SET ENTRY, decided in the order of R108, with the clamp of R38: a direct entry in the minus set is a CONFLICT, a tag
already in the recipe has its gain replaced in place, a new one joins the end unless 6 stand there. -/
def Obligations.SetEntryEditsTheRecipe : Prop :=
  ∀ (s : State) (b r t g1 g0 : Byte) (p : Fin 8) (name : PortState) (given gain : Nat) (tag : Tag)
    (code : ResultCode) (recipe : List RecipeEntry), s.ready → b.toNat = p.val →
    (r.toNat = 0 ∧ name = .screen ∧ recipe = (s.ports.get p).screenRecipe
      ∨ r.toNat = 1 ∧ name = .hold ∧ recipe = (s.ports.get p).holdRecipe
      ∨ r.toNat = 2 ∧ name = .air ∧ recipe = (s.ports.get p).airRecipe) →
    tag = tagOfByte t → given = g1.toNat * 256 + g0.toNat → gain = min 32768 given →
    code = (if given ≤ 32768 then .ok else .adjusted) →
    (tag.kind ≠ .mix ∧ tag ∈ s.minusSet p →
      exec (.setEntry [b, r, t, g1, g0]) s = .next (s.answered 7 id .conflict []))
    ∧ ((tag.kind = .mix ∨ tag ∉ s.minusSet p) →
      (tag ∈ recipe.map (·.tag) →
        exec (.setEntry [b, r, t, g1, g0]) s
          = .next (s.answered 7 (fun u => u.updPort p fun q => q.setRecipe name
              (recipe.map fun e => if e.tag = tag then { e with gain := gain } else e)) code []))
      ∧ (tag ∉ recipe.map (·.tag) → 6 ≤ recipe.length →
        exec (.setEntry [b, r, t, g1, g0]) s = .next (s.answered 7 id .full []))
      ∧ (tag ∉ recipe.map (·.tag) → recipe.length < 6 →
        exec (.setEntry [b, r, t, g1, g0]) s
          = .next (s.answered 7 (fun u => u.updPort p fun q => q.setRecipe name
              (recipe ++ [{ tag := tag, gain := gain }])) code [])))
    ∧ ∀ far : Byte, (8 ≤ far.toNat → exec (.setEntry [far, r, t, g1, g0]) s = .next (s.answered 7 id .badArgument []))
      ∧ (3 ≤ far.toNat → exec (.setEntry [b, far, t, g1, g0]) s = .next (s.answered 7 id .badArgument []))

/-- SET MINUS, decided in the order of R110: it replaces a port's minus extras by the tags given, each in its first
place and the port's own tag left out, unless a tag is foreign, a MIX, named by a direct entry or the talkback
source. -/
def Obligations.SetMinusReplacesTheExtras : Prop :=
  ∀ (s : State) (b : Byte) (p : Fin 8) (bytes : List Byte) (tags : List Tag), s.ready → b.toNat = p.val →
    tags = bytes.map tagOfByte → bytes.length ≤ 3 →
    ((∃ t ∈ tags, t.kind = .mix ∨ t.station ≠ s.stationNumber
        ∨ t ∈ ((s.ports.get p).screenRecipe ++ (s.ports.get p).holdRecipe ++ (s.ports.get p).airRecipe).map (·.tag)
        ∨ (s.ports.get p).source = some t) →
      exec (.setMinus (b :: bytes)) s = .next (s.answered (bytes.length + 3) id .conflict []))
    ∧ ((∀ t ∈ tags, t.kind ≠ .mix ∧ t.station = s.stationNumber
        ∧ t ∉ ((s.ports.get p).screenRecipe ++ (s.ports.get p).holdRecipe ++ (s.ports.get p).airRecipe).map (·.tag)
        ∧ (s.ports.get p).source ≠ some t) →
      ∃ extras : List Tag, extras.Nodup ∧ (extras.Sublist tags)
        ∧ (∀ t, t ∈ extras ↔ t ∈ tags ∧ t ≠ s.portTag p)
        ∧ (∀ t ∈ extras, ∀ u ∈ extras, extras.idxOf t < extras.idxOf u → tags.idxOf t < tags.idxOf u)
        ∧ exec (.setMinus (b :: bytes)) s
          = .next (s.answered (bytes.length + 3) (fun u => u.updPort p fun q => { q with extras := extras }) .ok []))
    ∧ ∀ far : Byte, 8 ≤ far.toNat →
      exec (.setMinus (far :: bytes)) s = .next (s.answered (bytes.length + 3) id .badArgument [])

/-- SET TALKBACK, decided in the order of R129, with the clamps of R38: source, gain and duck are stored together, and
the talkback field stands. -/
def Obligations.SetTalkbackStoresTogether : Prop :=
  ∀ (s : State) (b c t g1 g0 d1 d0 : Byte) (p : Fin 8) (source : Option Tag) (gain duck : Nat), s.ready →
    b.toNat = p.val → gain = g1.toNat * 256 + g0.toNat → duck = d1.toNat * 256 + d0.toNat →
    (c.toNat = 0 ∧ source = none ∨ c.toNat = 1 ∧ source = some (tagOfByte t)) →
    ((∃ tag, source = some tag ∧ (tag.kind = .mix ∨ tag ∈ s.minusSet p)) →
      exec (.setTalkback [b, c, t, g1, g0, d1, d0]) s = .next (s.answered 9 id .conflict []))
    ∧ ((∀ tag, source = some tag → tag.kind ≠ .mix ∧ tag ∉ s.minusSet p) →
      exec (.setTalkback [b, c, t, g1, g0, d1, d0]) s
        = .next (s.answered 9 (fun u => u.updPort p fun q => { q with
            source := source, talkGain := min 32768 gain, duck := min 8192 duck })
            (if gain ≤ 32768 ∧ duck ≤ 8192 then .ok else .adjusted) []))
    ∧ ∀ far : Byte, (8 ≤ far.toNat →
        exec (.setTalkback [far, c, t, g1, g0, d1, d0]) s = .next (s.answered 9 id .badArgument []))
      ∧ (2 ≤ far.toNat →
        exec (.setTalkback [b, far, t, g1, g0, d1, d0]) s = .next (s.answered 9 id .badArgument []))

/-- TALKBACK ON is refused in IDLE and OUT_OF_SERVICE and otherwise turns talkback on; TALKBACK OFF turns it off in
every port state; neither looks at the station state (R130). -/
def Obligations.TalkbackSwitches : Prop :=
  ∀ (s : State) (b : Byte), s.ready →
    (∀ p : Fin 8, b.toNat = p.val →
      ((s.ports.get p).state = .screen ∨ (s.ports.get p).state = .hold ∨ (s.ports.get p).state = .air →
        exec (.talkbackOn [b]) s
          = .next (s.answered 3 (fun u => u.updPort p fun q => { q with talkback := true }) .ok []))
      ∧ ((s.ports.get p).state = .idle ∨ (s.ports.get p).state = .outOfService →
        exec (.talkbackOn [b]) s = .next (s.answered 3 id .refused []))
      ∧ exec (.talkbackOff [b]) s
          = .next (s.answered 3 (fun u => u.updPort p fun q => { q with talkback := false }) .ok []))
    ∧ (8 ≤ b.toNat → exec (.talkbackOn [b]) s = .next (s.answered 3 id .badArgument [])
      ∧ exec (.talkbackOff [b]) s = .next (s.answered 3 id .badArgument []))

/-- SET PAD stores the pad, clamped to 6 (R38, R111). SET CADENCE clamps the period first and the on-time against the
period as stored, stores all three values and restarts the counter at 0 (R135). -/
def Obligations.PadAndCadenceAreClamped : Prop :=
  (∀ (s : State) (b k : Byte), s.ready →
    (∀ p : Fin 8, b.toNat = p.val →
      exec (.setPad [b, k]) s
        = .next (s.answered 4 (fun u => u.updPort p fun q => { q with pad := min 6 k.toNat })
            (if k.toNat ≤ 6 then .ok else .adjusted) []))
    ∧ (8 ≤ b.toNat → exec (.setPad [b, k]) s = .next (s.answered 4 id .badArgument [])))
  ∧ ∀ (s : State) (b p1 p0 d1 d0 a2 a1 a0 : Byte) (period onTime amplitude : Nat), s.ready →
    period = p1.toNat * 256 + p0.toNat → onTime = d1.toNat * 256 + d0.toNat →
    amplitude = a2.toNat * 65536 + a1.toNat * 256 + a0.toNat →
    (∀ (p : Fin 8) (stored : Nat), b.toNat = p.val →
      stored = (if period < 2 then 2 else if 30000 < period then 30000 else period) →
      exec (.setCadence [b, p1, p0, d1, d0, a2, a1, a0]) s
        = .next (s.answered 10 (fun u => u.updPort p fun q => { q with
            period := stored
            onTime := if stored ≤ onTime then stored - 1 else onTime
            amplitude := if 8388607 < amplitude then 8388607 else amplitude
            counter := 0 })
            (if period < 2 ∨ 30000 < period ∨ stored ≤ onTime ∨ 8388607 < amplitude then .adjusted else .ok) []))
    ∧ (8 ≤ b.toNat →
      exec (.setCadence [b, p1, p0, d1, d0, a2, a1, a0]) s = .next (s.answered 10 id .badArgument []))

/-! ## Mix requests -/

/-- SET TERM, decided in the order of R72, with the clamp of R38: a MIX tag is a CONFLICT, a listed tag has its
coefficient replaced in place and keeps its claim status, and a new one joins the end, UNHEARD if a PARTY, unless 48
terms, or 16 PARTY terms for a PARTY tag, stand there. -/
def Obligations.SetTermEditsTheMix : Prop :=
  ∀ (s : State) (b t c1 c0 : Byte) (m : Fin 4) (given coefficient : Nat) (tag : Tag) (code : ResultCode) (x : Mix),
    s.ready → b.toNat = m.val → tag = tagOfByte t → given = c1.toNat * 256 + c0.toNat →
    coefficient = min 32768 given → code = (if given ≤ 32768 then .ok else .adjusted) → x = s.mixes.get m →
    (tag.kind = .mix → exec (.setTerm [b, t, c1, c0]) s = .next (s.answered 6 id .conflict []))
    ∧ (tag.kind ≠ .mix →
      (tag ∈ x.terms.map (·.tag) →
        exec (.setTerm [b, t, c1, c0]) s
          = .next (s.answered 6 (fun u => u.updMix m fun y => { y with
              terms := y.terms.map fun e => if e.tag = tag then { e with coefficient := coefficient } else e })
              code []))
      ∧ (tag ∉ x.terms.map (·.tag) →
        (48 ≤ x.terms.length
            ∨ tag.kind = .party ∧ 16 ≤ (x.terms.filter fun e => e.tag.kind == .party).length) →
        exec (.setTerm [b, t, c1, c0]) s = .next (s.answered 6 id .full []))
      ∧ (tag ∉ x.terms.map (·.tag) → x.terms.length < 48 →
        (tag.kind = .party → (x.terms.filter fun e => e.tag.kind == .party).length < 16) →
        exec (.setTerm [b, t, c1, c0]) s
          = .next (s.answered 6 (fun u => u.updMix m fun y => { y with
              terms := y.terms ++ [{ tag := tag, coefficient := coefficient
                                     status := if tag.kind = .party then some .unheard else none }] })
              code [])))
    ∧ ∀ far : Byte, 4 ≤ far.toNat → exec (.setTerm [far, t, c1, c0]) s = .next (s.answered 6 id .badArgument [])

/-- REMOVE ENTRY takes the tag's entry out of the one recipe, the others keeping their order (R109); REMOVE TERM takes a
term out with its claim status and raises no event (R73); CLEAR MIX takes them all and keeps the mix's state, counts and
flag (R74). -/
def Obligations.RemovalsCloseTheGap : Prop :=
  ∀ (s : State) (b r t : Byte), s.ready →
    (∀ (p : Fin 8) (name : PortState) (recipe : List RecipeEntry), b.toNat = p.val →
      (r.toNat = 0 ∧ name = .screen ∧ recipe = (s.ports.get p).screenRecipe
        ∨ r.toNat = 1 ∧ name = .hold ∧ recipe = (s.ports.get p).holdRecipe
        ∨ r.toNat = 2 ∧ name = .air ∧ recipe = (s.ports.get p).airRecipe) →
      (tagOfByte t ∉ recipe.map (·.tag) →
        exec (.removeEntry [b, r, t]) s = .next (s.answered 5 id .notFound []))
      ∧ (tagOfByte t ∈ recipe.map (·.tag) →
        exec (.removeEntry [b, r, t]) s
          = .next (s.answered 5 (fun u => u.updPort p fun q => q.setRecipe name
              (recipe.filter fun e => decide (e.tag ≠ tagOfByte t))) .ok [])))
    ∧ (8 ≤ b.toNat ∨ 3 ≤ r.toNat → exec (.removeEntry [b, r, t]) s = .next (s.answered 5 id .badArgument []))
    ∧ (∀ m : Fin 4, b.toNat = m.val →
      (tagOfByte t ∉ (s.mixes.get m).terms.map (·.tag) →
        exec (.removeTerm [b, t]) s = .next (s.answered 4 id .notFound []))
      ∧ (tagOfByte t ∈ (s.mixes.get m).terms.map (·.tag) →
        exec (.removeTerm [b, t]) s
          = .next (s.answered 4 (fun u => u.updMix m fun y => { y with
              terms := y.terms.filter fun e => decide (e.tag ≠ tagOfByte t) }) .ok []))
      ∧ exec (.clearMix [b]) s
          = .next (s.answered 3 (fun u => u.updMix m fun y => { y with terms := [] }) .ok []))
    ∧ (4 ≤ b.toNat → exec (.removeTerm [b, t]) s = .next (s.answered 4 id .badArgument [])
      ∧ exec (.clearMix [b]) s = .next (s.answered 3 id .badArgument []))

/-- MIX ON sets a mix LIVE and MIX OFF sets it OFF, each also when it is so already, and both keep the terms and claim
statuses (R75). -/
def Obligations.MixesSwitch : Prop :=
  ∀ (s : State) (b : Byte), s.ready →
    (∀ m : Fin 4, b.toNat = m.val →
      exec (.mixOn [b]) s = .next (s.answered 3 (fun u => u.updMix m fun y => { y with live := true }) .ok [])
      ∧ exec (.mixOff [b]) s = .next (s.answered 3 (fun u => u.updMix m fun y => { y with live := false }) .ok []))
    ∧ (4 ≤ b.toNat → exec (.mixOn [b]) s = .next (s.answered 3 id .badArgument [])
      ∧ exec (.mixOff [b]) s = .next (s.answered 3 id .badArgument []))

/-! ## Between strobes -/

/-- FRAME_START notes that a lane's receiver follows a frame, and on the own lane in STARTING that one has started (R8,
R19); FRAME_COMPLETE gives the frame its class by the tests of R9 in their order, counts it once by its class (R10,
R174) and makes it the frame of the block, except in UNTIMED (R8, R21). A frame that completes in a reset is closed and
not counted (R18). That one which starts in a reset is followed, so that it counts if it completes after the reset, and
is not noted for the listen check, is the model's reading (log entry 13). -/
def Obligations.FramesAreReceivedAndCounted : Prop :=
  ∀ (s : State) (lane : Fin 16) (bytes : List Byte) (ending : FrameEnding),
    ((s.lanes.get lane).receiving = false →
      exec (.frameStart lane) s = .next { s with
        lanes := upd s.lanes lane fun l => { l with receiving := true }
        station := match s.station with
          | .starting quiet heard => .starting quiet (heard || (!s.inReset && lane == s.stationNumber))
          | other => other })
    ∧ ((s.lanes.get lane).receiving = true → s.inReset = true →
      exec (.frameComplete lane bytes ending) s = .next { s with
        lanes := upd s.lanes lane fun l => { l with receiving := false } })
    ∧ ((s.lanes.get lane).receiving = true → s.inReset = false → ∀ (frame : List Byte) (cls : FrameClass),
      frame = bytes.take (lengthField bytes) →
      (test1 bytes = false ∧ cls = .checkFailure
        ∨ test1 bytes = true ∧ test2 bytes ending = false ∧ cls = .checkFailure
        ∨ test1 bytes = true ∧ test2 bytes ending = true ∧ test3 frame = false ∧ cls = .checkFailure
        ∨ test1 bytes = true ∧ test2 bytes ending = true ∧ test3 frame = true ∧ test4 lane frame = false
          ∧ cls = .stationMismatch
        ∨ test1 bytes = true ∧ test2 bytes ending = true ∧ test3 frame = true ∧ test4 lane frame = true
          ∧ test5 frame = false ∧ cls = .checkFailure
        ∨ test1 bytes = true ∧ test2 bytes ending = true ∧ test3 frame = true ∧ test4 lane frame = true
          ∧ test5 frame = true ∧ test6 frame = false ∧ cls = .testFrame
        ∨ test1 bytes = true ∧ test2 bytes ending = true ∧ test3 frame = true ∧ test4 lane frame = true
          ∧ test5 frame = true ∧ test6 frame = true ∧ cls = .good) →
      ∃ taken : Received, taken.cls = cls
        ∧ (test1 bytes = true → test2 bytes ending = true → taken.bytes = frame)
        ∧ exec (.frameComplete lane bytes ending) s = .next { s with
            lanes := upd s.lanes lane fun l => { l with
              receiving := false
              frame := if s.station = .untimed then l.frame else some taken
              good := if cls = .good then addCount l.good 1 else l.good
              checkFailures := if cls = .checkFailure then addCount l.checkFailures 1 else l.checkFailures
              stationMismatches :=
                if cls = .stationMismatch then addCount l.stationMismatches 1 else l.stationMismatches
              testFrames := if cls = .testFrame then addCount l.testFrames 1 else l.testFrames } })

/-- SAMPLE_FRAME at a position below 16 stores the first 24 bits of the twelve ADIN slots, as signed samples, at that
position of the capture buffers, sends that position of the eight output buffers in the first 24 bits of the ADOUT slots
and zeros elsewhere; beyond position 15 and in UNTIMED it ignores ADIN and sends zeros (R178). -/
def Obligations.SampleFramesCaptureAndPlay : Prop :=
  ∀ (s : State) (adin : Vector (BitVec 32) 16), s.inReset = false →
    (s.station ≠ .untimed → ∀ n : Fin 16, s.position = n.val →
      ∃ t, exec (.sampleFrame adin) s = .next t
        ∧ t = { s with capture := t.capture, adout := t.adout, position := n.val + 1 }
        ∧ (∀ (c : Fin 12) (k : Fin 16), (t.capture.get c).get k
            = if k = n then (adin.get ⟨c.val, by omega⟩).toInt / 256 else (s.capture.get c).get k)
        ∧ (∀ p : Fin 8, t.adout.get ⟨p.val, by omega⟩ = BitVec.ofInt 32 (256 * (s.output.get p).get n))
        ∧ ∀ slot : Fin 16, 8 ≤ slot.val → t.adout.get slot = 0)
    ∧ (s.station = .untimed ∨ 16 ≤ s.position →
      exec (.sampleFrame adin) s = .next { s with adout := Vector.replicate 16 0 })

/-- The strobe monitor (R2, R3): a missing strobe in TIMED adds to the missed count; the fourth is a STROBE_LOSS, at
which the monitor enters LOST, STROBE_LOST is raised with the state at the loss, followed by nothing but WITHDRAW_DONE
or TEST_DONE (R21, R148, R154, R170), and the station does what R20, R21, R148 and R154 give; in LOST every strobe
zeroes the missed count, GOOD_RUN_TIMEOUT waits for a new first strobe, a strobe outside the run's interval starts it
anew, and the fourth at the correct interval is a STROBE_RUN_COMPLETE, at which STROBE_BACK is raised and an UNTIMED
station begins its listen window, that strobe being taken in STARTING (R22). The model's readings here are that a
threshold row is the whole step (log entry 3), that the entry to UNTIMED drops the frames of the block (log entry 15)
and the kept withdrawing flags (log entry 25), and that a count stands until a rule sets it (log entry 21). -/
def Obligations.StrobesAreMonitored : Prop :=
  ∀ s : State, s.inReset = false →
    (s.monitor.condition = .timed → s.monitor.missed < 3 →
      exec .strobeMissing s = .next { s with monitor := { s.monitor with missed := s.monitor.missed + 1 } })
    ∧ (s.monitor.condition = .timed → s.monitor.missed = 3 →
      ∃ t, exec .strobeMissing s = .next t ∧ exec .strobeLoss s = .next t
        ∧ t.monitor = { s.monitor with condition := .lost, reference := none, missed := 4 }
        ∧ ((∀ cause finals, s.station ≠ .closing cause finals) → (∀ test, s.station ≠ .withdrawn (some test)) →
          s.queues t [.strobeLost s.stationName])
        ∧ t.sequence = s.sequence ∧ t.echoMismatch = s.echoMismatch ∧ t.mixes = s.mixes ∧ t.link = s.link
        ∧ (s.stationName = .starting ∨ s.stationName = .running ∨ s.stationName = .withdrawing →
          t.station = .untimed ∧ t.lout = .released ∧ t.history = [] ∧ (∀ tag, t.entry tag = none)
          ∧ (∀ l, t.lanes.get l = { s.lanes.get l with
              frame := none, receive := .absent, finalMark := false, withdrawing := false })
          ∧ (∀ p, t.ports.get p = { s.ports.get p with holder := none, queue := [] })
          ∧ ∀ p, t.output.get p = Block.zero)
        ∧ (∀ cause finals, s.station = .closing cause finals →
          t.station = .withdrawn none ∧ t.lout = .released ∧ t.lanes = s.lanes ∧ t.directory = s.directory
          ∧ t.ports = s.ports ∧ t.history = s.history ∧ t.output = s.output
          ∧ s.queues t [.strobeLost .closing, .withdrawDone cause finals])
        ∧ (∀ test, s.station = .withdrawn (some test) →
          t.station = .withdrawn none ∧ t.lout = .released ∧ t.lanes = s.lanes ∧ t.directory = s.directory
          ∧ t.ports = s.ports ∧ t.history = s.history ∧ t.output = s.output
          ∧ s.queues t [.strobeLost .withdrawn,
              .testDone s.stationNumber .aborted (test.judged - test.missing - test.differing)])
        ∧ (s.station = .withdrawn none ∨ s.station = .conflict →
          t.station = s.station ∧ t.lanes = s.lanes ∧ t.directory = s.directory ∧ t.ports = s.ports
          ∧ t.lout = s.lout ∧ t.history = s.history ∧ t.output = s.output))
    ∧ (s.monitor.condition = .timed → ∀ inp : StrobeInput, ∃ t, exec (.blockStrobe inp) s = .next t
      ∧ t.monitor = { s.monitor with reference := some inp.instant, missed := 0 })
    ∧ (s.monitor.condition = .lost → s.monitor.reference ≠ none →
      exec .goodRunTimeout s = .next { s with monitor := { s.monitor with reference := none, goodRun := 0 } })
    ∧ (s.monitor.condition = .lost → ∀ inp : StrobeInput,
      (s.monitor.reference = none
        ∨ ∃ r, s.monitor.reference = some r ∧ correctInterval r inp.instant = false) →
      ∃ t, exec (.blockStrobe inp) s = .next t
        ∧ t.monitor = { s.monitor with reference := some inp.instant, missed := 0, goodRun := 0 }
        ∧ (s.station = .untimed → t = { s with monitor := t.monitor, freeCount := s.freeCount + 1 }))
    ∧ (s.monitor.condition = .lost → ∀ (inp : StrobeInput) (r : Nat), s.monitor.reference = some r →
      63 * Config.ticksPerBlock ≤ 64 * (inp.instant - r) → 64 * (inp.instant - r) ≤ 65 * Config.ticksPerBlock →
      (s.monitor.goodRun < 3 → ∃ t, exec (.blockStrobe inp) s = .next t
        ∧ t.monitor = { s.monitor with
            reference := some inp.instant, missed := 0, goodRun := s.monitor.goodRun + 1 }
        ∧ (s.station = .untimed → t = { s with monitor := t.monitor, freeCount := s.freeCount + 1 }))
      ∧ (s.monitor.goodRun = 3 → ∃ t, exec (.strobeRunComplete inp) s = .next t
        ∧ exec (.blockStrobe inp) s = .next t
        ∧ t.monitor = { condition := .timed, reference := some inp.instant, missed := 0, goodRun := 4 }
        ∧ (s.station = .untimed → t.station = .starting (some 0) false ∧ t.echoMismatch = 0
          ∧ t.sequence = s.sequence ∧ t.sent = none ∧ t.told (.strobeBack .starting)
          ∧ exec (.blockStrobe inp) { s with station := .starting none false, echoMismatch := 0 } = .next t)
        ∧ (s.station = .conflict ∨ s.station = .withdrawn none →
          t.station = s.station ∧ t.told (.strobeBack s.stationName))))

/-! ## The taken strobe -/

/-- What a strobe, and every command that is a strobe, leaves alone: the link, the resets, the station number, ADOUT,
every setting of a port, every term's tag and coefficient, and the lanes' receivers and frame counts (R1, R10, R39). -/
def Obligations.StrobesKeepTheSettings : Prop :=
  ∀ (s t : State) (c : Instr) (inp : StrobeInput) (lane : Fin 16) (port : Fin 8),
    c ∈ [.blockStrobe inp, .strobeRunComplete inp, .acquireComplete inp lane, .missLimit inp lane, .listenComplete inp,
      .echoMismatchLimit inp, .quietRunComplete inp port, .withdrawalTimerExpiry inp, .finalCountComplete inp,
      .laneTestComplete inp] →
    exec c s = .next t →
    t.link = s.link ∧ t.resets = s.resets ∧ t.resetCause = s.resetCause ∧ t.stationNumber = s.stationNumber
    ∧ t.adout = s.adout ∧ t.pending = s.pending
    ∧ (∀ p, (t.ports.get p).choice = (s.ports.get p).choice ∧ (t.ports.get p).threshold = (s.ports.get p).threshold
      ∧ (t.ports.get p).notice = (s.ports.get p).notice
      ∧ (t.ports.get p).screenRecipe = (s.ports.get p).screenRecipe
      ∧ (t.ports.get p).holdRecipe = (s.ports.get p).holdRecipe
      ∧ (t.ports.get p).airRecipe = (s.ports.get p).airRecipe ∧ (t.ports.get p).extras = (s.ports.get p).extras
      ∧ (t.ports.get p).pad = (s.ports.get p).pad ∧ (t.ports.get p).source = (s.ports.get p).source
      ∧ (t.ports.get p).talkGain = (s.ports.get p).talkGain ∧ (t.ports.get p).duck = (s.ports.get p).duck
      ∧ (t.ports.get p).period = (s.ports.get p).period ∧ (t.ports.get p).onTime = (s.ports.get p).onTime
      ∧ (t.ports.get p).amplitude = (s.ports.get p).amplitude)
    ∧ (∀ m, (t.mixes.get m).terms.map (fun e => (e.tag, e.coefficient))
        = (s.mixes.get m).terms.map (fun e => (e.tag, e.coefficient)))
    ∧ ∀ l, (t.lanes.get l).receiving = (s.lanes.get l).receiving ∧ (t.lanes.get l).good = (s.lanes.get l).good
      ∧ (t.lanes.get l).checkFailures = (s.lanes.get l).checkFailures
      ∧ (t.lanes.get l).stationMismatches = (s.lanes.get l).stationMismatches
      ∧ (t.lanes.get l).testFrames = (s.lanes.get l).testFrames

/-- The events of a strobe that is taken are exactly those that its changes raise (Safety's strobeRaises, kind by kind),
each once while the mixes list no tag twice, those of CLAIM_DROPPED in ascending port order (R92, R170), each with the
sequence counter as it stands after the strobe's frame (R5, R168), queued while there is room (R169). The strobe that
brings an UNTIMED station back is taken in STARTING (R22), and any other strobe in UNTIMED raises nothing (R1). The
order among the rest is free (log entry 7). -/
def Obligations.StrobesRaiseTheirEvents : Prop :=
  ∀ (s : State) (inp : StrobeInput), s.inReset = false →
    ∃ t, exec (.blockStrobe inp) s = .next t
      ∧ (s.station = .untimed → (s.monitor.condition = .timed ∨ t.monitor.condition = .lost) → s.queues t [])
      ∧ ∀ taken : State,
        (s.station ≠ .untimed ∧ taken = s
          ∨ s.station = .untimed ∧ s.monitor.condition = .lost ∧ t.monitor.condition = .timed
            ∧ taken = { s with station := .starting none false, echoMismatch := 0 }) →
        ∃ raised : List Event, s.queues t raised
          ∧ (∀ e, e ∈ raised ↔ strobeRaises taken t e)
          ∧ (s.MixesSound → raised.Nodup)
          ∧ raised.Pairwise fun a b => ∀ (p q : Fin 8) (m n : Tag),
              a = .claimDropped p m → b = .claimDropped q n → p < q

/-- The lane receive states at a taken strobe: the tables of R11 and R12 and the final mark of R13, with the events, the
slips and the kept withdrawing flag (R149), for every lane. A lane other than the own one has a valid frame exactly when
its frame of the block passed the six tests (R9); the own lane has one exactly when its frame of the block is the
matched echo of the frame sent, in a state that judges it, and an invalid one when it is any other frame (R16, R17). -/
def Obligations.StrobesMoveTheLanes : Prop :=
  ∀ (s : State) (inp : StrobeInput), s.takesStrobes →
    ∃ t, exec (.blockStrobe inp) s = .next t ∧ ∀ l, (s.lanes.get l).slips ≤ 65535 →
      let before := s.lanes.get l
      let after := t.lanes.get l
      let frame := s.blockFrame s.verdict l
      after.frame = none
      ∧ (frame = .missing ↔ before.frame = none)
      ∧ (l ≠ s.stationNumber → ∀ r, before.frame = some r →
        (r.cls = .good → frame = .valid (readFrame r.bytes)) ∧ (r.cls ≠ .good → frame = .invalid))
      ∧ (l = s.stationNumber → ∀ r, before.frame = some r →
        let judges := s.station = .running ∨ (∃ timer, s.station = .withdrawing timer)
          ∨ ∃ cause finals, s.station = .closing cause finals ∧ finals < 8
        (judges ∧ r.cls = .good ∧ s.sent = some r.bytes → frame = .valid (readFrame r.bytes))
        ∧ (¬(judges ∧ r.cls = .good ∧ s.sent = some r.bytes) → frame = .invalid))
      ∧ (∀ f, frame = .valid f →
        after.finalMark = f.final ∧ after.withdrawing = (if f.final then before.withdrawing else f.withdrawing)
        ∧ (before.receive = .absent → after.receive = .acquiring f.sequence 1 ∧ after.slips = before.slips)
        ∧ (∀ previous acquired, before.receive = .acquiring previous acquired → after.slips = before.slips
          ∧ (f.sequence = previous + 1 → acquired < 2 → after.receive = .acquiring f.sequence (acquired + 1))
          ∧ (f.sequence = previous + 1 → 2 ≤ acquired →
            after.receive = .present f.sequence ∧ t.told (.lanePresent l f.sequence))
          ∧ (f.sequence ≠ previous + 1 → after.receive = .acquiring f.sequence 1))
        ∧ (∀ previous, before.receive = .present previous → after.receive = .present f.sequence
          ∧ after.slips = if f.sequence = previous + 1 then before.slips else min 65535 (before.slips + 1))
        ∧ (∀ previous misses, before.receive = .lapsed previous misses →
          after.receive = .present f.sequence ∧ after.slips = before.slips))
      ∧ ((∀ f, frame ≠ .valid f) → after.slips = before.slips
        ∧ after.withdrawing = (before.withdrawing && after.receive != .absent)
        ∧ (frame = .invalid → after.finalMark = before.finalMark)
        ∧ (frame = .missing → after.finalMark = false)
        ∧ (frame = .missing → before.finalMark = true → after.receive = .absent
          ∧ ∀ previous misses, before.receive = .present previous ∨ before.receive = .lapsed previous misses →
            t.told (.laneWithdrawn l previous))
        ∧ (frame = .invalid ∨ before.finalMark = false →
          (before.receive = .absent → after.receive = .absent)
          ∧ (∀ previous acquired, before.receive = .acquiring previous acquired → after.receive = .absent)
          ∧ (∀ previous, before.receive = .present previous → after.receive = .lapsed previous 1)
          ∧ (∀ previous misses, before.receive = .lapsed previous misses →
            (misses < 7 → after.receive = .lapsed previous (misses + 1))
            ∧ (7 ≤ misses → after.receive = .absent ∧ t.told (.laneLost l previous)))))

/-- ACQUIRE_COMPLETE: the third consecutive valid frame makes the lane PRESENT and raises LANE_PRESENT with its sequence
(R11). MISS_LIMIT: the eighth miss makes the lane ABSENT and raises LANE_LOST; its entries are removed and, on a station
that is RUNNING or WITHDRAWING and enters no CONFLICT, a claim held from it is dropped with CLAIM_DROPPED (R12, R28,
R92). That each row is the whole strobe is the model's choice (log entry 3). -/
def Obligations.LaneThresholdsComplete : Prop :=
  ∀ (s : State) (inp : StrobeInput) (l : Fin 16) (previous : Seq), s.takesStrobes →
    (∀ f, s.blockFrame s.verdict l = .valid f → (s.lanes.get l).receive = .acquiring previous 2 →
      f.sequence = previous + 1 →
      ∃ t, exec (.acquireComplete inp l) s = .next t ∧ exec (.blockStrobe inp) s = .next t
        ∧ (t.lanes.get l).receive = .present f.sequence ∧ t.told (.lanePresent l f.sequence))
    ∧ ((s.lanes.get l).receive = .lapsed previous 7 →
      (s.blockFrame s.verdict l = .invalid
        ∨ s.blockFrame s.verdict l = .missing ∧ (s.lanes.get l).finalMark = false) →
      ∃ t, exec (.missLimit inp l) s = .next t ∧ exec (.blockStrobe inp) s = .next t
        ∧ (t.lanes.get l).receive = .absent ∧ t.told (.laneLost l previous)
        ∧ (∀ c, (t.directory.get l).get c = none)
        ∧ (s.active = true → (s.verdict = .mismatched → s.echoMismatch < 2) →
          ∀ p h, (s.ports.get p).holder = some h → h.station = l →
          s.faults inp p = false ∨ (s.ports.get p).state = .outOfService →
            (t.ports.get p).holder ≠ some h ∧ t.told (.claimDropped p h)))

/-- The directory at a taken strobe: a valid frame gives each of its lane's channels the entry it carries or none (R25,
R26); a lane without one loses its entries when it goes ABSENT (R28) and otherwise keeps them, not fresh and older by 1
(R27). A shown channel of a NORMAL frame that is well formed gives an entry with the frame's samples and its
descriptor's or its record's fields, and each condition of R26 and R176 that fails gives none. That a FINAL frame gives
none whatever it shows is the model's reading (log entry 18). -/
def Obligations.StrobesWriteTheDirectory : Prop :=
  (∀ (s : State) (inp : StrobeInput), s.takesStrobes →
    ∃ t, exec (.blockStrobe inp) s = .next t ∧ ∀ l c,
      let before := (s.directory.get l).get c
      let after := (t.directory.get l).get c
      (∀ f, s.blockFrame s.verdict l = .valid f → after = entryOf f c
        ∧ (f.final = true → after = none) ∧ (c ∉ f.sections.shown → after = none)
        ∧ ∀ e, after = some e → e.sequence = f.sequence ∧ e.fresh = true ∧ e.age = 0)
      ∧ ((∀ f, s.blockFrame s.verdict l ≠ .valid f) →
        ((s.lanes.get l).receive ≠ .absent → (t.lanes.get l).receive = .absent → after = none)
        ∧ ((t.lanes.get l).receive ≠ .absent →
          after = before.map fun e => { e with fresh := false, age := min 65535 (e.age + 1) })))
  ∧ ∀ (f : Frame) (c : Fin 16), f.final = false → c ∈ f.sections.shown →
    let place := (f.sections.shown.filter fun x => decide (x < c)).length
    let samples := blockAt f.sections.samples place
    let field := fun i => byteAt f.sections.descriptors (4 * place + i)
    let narrow := ∀ n, -8388608 ≤ samples.get n ∧ samples.get n ≤ 8388607
    let wide := ∀ n, -134217728 ≤ samples.get n ∧ samples.get n ≤ 134217727
    let entry := fun body => some
      ({ sequence := f.sequence, fresh := true, age := 0, samples := samples, body := body } : Entry)
    (∀ n : Fin 16, samples.get n
      = (BitVec.ofNat 32 (nat4 (byteAt f.sections.samples (64 * place + 4 * n.val))
          (byteAt f.sections.samples (64 * place + 4 * n.val + 1))
          (byteAt f.sections.samples (64 * place + 4 * n.val + 2))
          (byteAt f.sections.samples (64 * place + 4 * n.val + 3)))).toInt)
    ∧ (c.val ≤ 7 →
      let holder := if (field 1).getLsbD 1 then some (tagOfByte (field 2)) else none
      let fits := narrow ∧ (field 3).toNat ≤ 4 ∧ ∀ h, holder = some h → h.kind = .mix
      (¬fits ∨ (field 0).toNat = 0 ∨ 3 < (field 0).toNat → entryOf f c = none)
      ∧ (fits → ∀ state, (state, (field 0).toNat) ∈ [(.screen, 1), (.hold, 2), (.air, 3)] →
        entryOf f c = entry (.party state ((field 1).getLsbD 0) holder (field 3).toNat)))
    ∧ (8 ≤ c.val → c.val ≤ 11 → (narrow → entryOf f c = entry .feed) ∧ (¬narrow → entryOf f c = none))
    ∧ (12 ≤ c.val →
      let named := f.sections.records.filter fun r => r.channel.toNat == c.val
      (named.length ≠ 1 → entryOf f c = none)
      ∧ ∀ r, named = [r] →
        let fits := wide ∧ r.terms.length ≤ 48 ∧ (r.terms.filter fun t => t.1.kind == .party).length ≤ 16
          ∧ (∀ t ∈ r.terms, t.1.kind ≠ .mix ∧ t.2 ≤ 32768) ∧ (r.terms.map (·.1)).Nodup
          ∧ r.stamps.length = (r.terms.map (·.1.station)).dedup.length
        (¬fits → entryOf f c = none)
        ∧ (fits → ∃ lanes : List (Fin 16), lanes.Pairwise (· < ·)
          ∧ (∀ l, l ∈ lanes ↔ ∃ t ∈ r.terms, t.1.station = l) ∧ lanes.length = r.stamps.length
          ∧ entryOf f c
            = entry (.mix { channel := c, stamps := lanes.zip r.stamps, terms := r.terms, clip := r.clip })))

/-- The listen window (R19): its first strobe begins it, later ones count up to 16, the sixteenth quiet one is a
LISTEN_COMPLETE at which the station is RUNNING and sends its first NORMAL frame; a frame start noted on the own lane
leads to CONFLICT with cause LISTEN (R20). That
LISTEN_COMPLETE is the whole strobe is the model's choice (log entry 3). -/
def Obligations.TheListenWindowEnds : Prop :=
  ∀ (s : State) (inp : StrobeInput), s.inReset = false →
    (∀ heard, s.station = .starting none heard →
      ∃ t, exec (.blockStrobe inp) s = .next t ∧ t.station = .starting (some 0) heard ∧ t.sequence = s.sequence
        ∧ t.sent = none ∧ t.lout = s.lout)
    ∧ (∀ quiet, s.station = .starting (some quiet) false → quiet < 15 →
      ∃ t, exec (.blockStrobe inp) s = .next t ∧ t.station = .starting (some (quiet + 1)) false
        ∧ t.sequence = s.sequence ∧ t.sent = none ∧ t.lout = s.lout)
    ∧ (s.station = .starting (some 15) false →
      ∃ t frame, exec (.listenComplete inp) s = .next t ∧ exec (.blockStrobe inp) s = .next t
        ∧ t.station = .running ∧ t.sequence = s.sequence + 1 ∧ t.sent = some frame ∧ t.lout = .driven frame
        ∧ byteAt frame 1 = 1 ∧ t.told (.stationRunning s.sequence))
    ∧ (∀ quiet, s.station = .starting (some quiet) true →
      ∃ t, exec (.blockStrobe inp) s = .next t ∧ t.station = .conflict ∧ t.lout = .released ∧ t.sent = none
        ∧ t.sequence = s.sequence ∧ t.told (.laneConflict s.stationNumber .listen)
        ∧ (∀ p, (t.ports.get p).holder = none ∧ (t.ports.get p).queue = []) ∧ ∀ p, t.output.get p = Block.zero)

/-- The echo check (R16, R20): in RUNNING, WITHDRAWING and CLOSING the echo of the last frame either is that frame,
which zeroes the mismatch count, or adds 1 to it; the third mismatch is an ECHO_MISMATCH_LIMIT, at which the station
enters CONFLICT with cause ECHO, releases LOUT, sends nothing, empties the claims and makes the returns silent. At a
strobe at which no echo is judged the count stays. A RUNNING station without a third mismatch stays RUNNING (R20, R142),
and CONFLICT and a WITHDRAWN station without a test stay as they are, with LOUT as it is, no frame and the sequence held
(R5, R6, R20). That ECHO_MISMATCH_LIMIT is the whole strobe is the model's choice (log entry 3), and that the count
stays 3 in CONFLICT its reading (log entry 26). -/
def Obligations.EchoMismatchesLeadToConflict : Prop :=
  ∀ (s : State) (inp : StrobeInput), s.inReset = false →
    let judges := s.station = .running ∨ (∃ timer, s.station = .withdrawing timer)
      ∨ ∃ cause finals, s.station = .closing cause finals ∧ finals < 8
    (∀ frame : List Byte, s.sent = some frame → judges →
      ((s.lanes.get s.stationNumber).frame = some { bytes := frame, cls := .good } →
        ∃ t, exec (.blockStrobe inp) s = .next t ∧ t.echoMismatch = 0 ∧ t.station ≠ .conflict
          ∧ (s.station = .running → t.station = .running))
      ∧ ((s.lanes.get s.stationNumber).frame ≠ some { bytes := frame, cls := .good } →
        (s.echoMismatch < 2 → ∃ t, exec (.blockStrobe inp) s = .next t ∧ t.echoMismatch = s.echoMismatch + 1
          ∧ t.station ≠ .conflict ∧ (s.station = .running → t.station = .running))
        ∧ (s.echoMismatch = 2 → ∃ t, exec (.echoMismatchLimit inp) s = .next t ∧ exec (.blockStrobe inp) s = .next t
          ∧ t.station = .conflict ∧ t.echoMismatch = 3 ∧ t.lout = .released ∧ t.sent = none
          ∧ t.sequence = s.sequence ∧ t.told (.laneConflict s.stationNumber .echo)
          ∧ (∀ p, (t.ports.get p).holder = none ∧ (t.ports.get p).queue = [])
          ∧ (∀ p, t.output.get p = Block.zero) ∧ t.history = s.history)))
    ∧ (s.station ≠ .untimed → s.sent = none ∨ ¬judges →
      ∃ t, exec (.blockStrobe inp) s = .next t ∧ t.echoMismatch = s.echoMismatch
        ∧ (s.station = .running → t.station = .running)
        ∧ (s.station = .conflict ∨ s.station = .withdrawn none →
          t.station = s.station ∧ t.lout = s.lout ∧ t.sent = none ∧ t.sequence = s.sequence))

/-- CLOSING sends a FINAL frame at each of eight strobes and is over at the next, a FINAL_COUNT_COMPLETE, with
WITHDRAW_DONE (R147), each frame driven on LOUT (R6) with the counter's sequence, which then advances (R5), and none
recorded in the history (R7, R113); a lane test sends a TEST frame at each of four strobes, judges each one's echo at
the strobe after it, and is over at the fourth judgement, a LANE_TEST_COMPLETE, with TEST_DONE (R152, R153). A FINAL
frame is a header alone (R6, R147), and a TEST frame shows all sixteen channels with the counting pattern (R152). That
the two rows are the whole strobe is the model's choice (log entry 3), and that a TEST frame carries descriptors of
zeros, as R152 and R175 say and R101 denies, is its choice too (log entry 30). -/
def Obligations.ClosingsAndLaneTestsComplete : Prop :=
  finalContent = { kind := 2, shown := [], withdrawing := false, descriptors := [], wants := [], records := []
                   samples := [] }
  ∧ (∀ i : Nat, let c := testContent i
    c.kind = 3 ∧ c.shown = List.finRange 16 ∧ c.withdrawing = false ∧ c.wants = [] ∧ c.records = []
    ∧ c.descriptors = List.replicate 16 [0, 0, 0, 0] ∧ c.samples.length = 16
    ∧ ∀ (channel : Fin 16) (b : Block), c.samples[channel.val]? = some b →
      ∀ n : Fin 16, b.get n = 65536 * i + 256 * channel.val + n.val)
  ∧ ∀ (s : State) (inp : StrobeInput), s.inReset = false →
    (∀ cause finals, s.station = .closing cause finals → finals < 8 →
      (s.verdict = .mismatched → s.echoMismatch < 2) →
      ∃ t, exec (.blockStrobe inp) s = .next t ∧ t.station = .closing cause (finals + 1)
        ∧ t.sequence = s.sequence + 1 ∧ t.history = s.history
        ∧ t.sent = some (frameBytes s.stationNumber s.sequence finalContent)
        ∧ t.lout = .driven (frameBytes s.stationNumber s.sequence finalContent))
    ∧ (∀ cause, s.station = .closing cause 8 →
      ∃ t, exec (.finalCountComplete inp) s = .next t ∧ exec (.blockStrobe inp) s = .next t
        ∧ t.station = .withdrawn none ∧ t.sequence = s.sequence ∧ t.sent = none ∧ t.lout = .released
        ∧ t.told (.withdrawDone cause 8))
    ∧ (∀ test missing differing, s.station = .withdrawn (some test) →
      missing = test.missing + (if (s.lanes.get s.stationNumber).frame = none then 1 else 0) →
      differing = test.differing + (match (s.lanes.get s.stationNumber).frame with
        | some r => if r.cls = .testFrame ∧ s.sent = some r.bytes then 0 else 1
        | none => 0) →
      (test.sent = 0 → test.judged = 0 →
        ∃ t, exec (.blockStrobe inp) s = .next t ∧ t.station = .withdrawn (some { test with sent := 1 })
          ∧ t.sequence = s.sequence + 1 ∧ t.history = s.history
          ∧ t.sent = some (frameBytes s.stationNumber s.sequence (testContent 0))
          ∧ t.lout = .driven (frameBytes s.stationNumber s.sequence (testContent 0)))
      ∧ (test.judged < test.sent → test.judged < 3 →
        ∃ t, exec (.blockStrobe inp) s = .next t
          ∧ t.station = .withdrawn (some { sent := test.sent + 1, judged := test.judged + 1
                                           missing := missing, differing := differing })
          ∧ t.sequence = s.sequence + 1 ∧ t.history = s.history
          ∧ t.sent = some (frameBytes s.stationNumber s.sequence (testContent test.sent))
          ∧ t.lout = .driven (frameBytes s.stationNumber s.sequence (testContent test.sent)))
      ∧ (test.judged = 3 → test.sent = 4 →
        ∃ t, exec (.laneTestComplete inp) s = .next t ∧ exec (.blockStrobe inp) s = .next t
          ∧ t.station = .withdrawn none ∧ t.sequence = s.sequence ∧ t.sent = none ∧ t.lout = .released
          ∧ t.told (.testDone s.stationNumber
              (if 1 ≤ missing then .noEcho else if 1 ≤ differing then .mismatch else .pass)
              (4 - missing - differing))))

/-- The withdrawal check (R144): with no holder after the claim update the station enters CLOSING with cause NORMAL and
drives its first FINAL frame on LOUT, the sequence advancing and the history as it is (R5 to R7, R113); with one the
timer goes up; and at 30,000, a WITHDRAWAL_TIMER_EXPIRY, the station is RUNNING again and WITHDRAW_DENIED tells the
number of ports with a holder. A holder is kept while its lane does not go ABSENT and is unheard or heard asking, on a
port that no group fault takes out (R60, R92, R93); the update grants none (R100). That the expiry is the whole strobe
is the model's choice (log entry 3). -/
def Obligations.WithdrawalsWaitForHolders : Prop :=
  ∀ (s : State) (inp : StrobeInput) (timer : Nat), s.inReset = false → s.station = .withdrawing timer →
    (s.verdict = .mismatched → s.echoMismatch < 2) →
    ((∀ p, s.keptHolder inp p = none) →
      ∃ t, exec (.blockStrobe inp) s = .next t ∧ t.station = .closing .normal 1
        ∧ t.sent = some (frameBytes s.stationNumber s.sequence finalContent)
        ∧ t.lout = .driven (frameBytes s.stationNumber s.sequence finalContent)
        ∧ t.sequence = s.sequence + 1 ∧ t.history = s.history
        ∧ (∀ p, (t.ports.get p).served = false ∧ (t.ports.get p).talkback = false
          ∧ (t.ports.get p).holder = none ∧ (t.ports.get p).queue = [])
        ∧ (∀ m, (t.mixes.get m).live = false) ∧ ∀ p, t.output.get p = Block.zero)
    ∧ ((∃ p, s.keptHolder inp p ≠ none) →
      (timer < 29999 → ∃ t, exec (.blockStrobe inp) s = .next t ∧ t.station = .withdrawing (timer + 1)
        ∧ ∀ p, (t.ports.get p).holder = s.keptHolder inp p)
      ∧ (timer = 29999 → ∃ t frame held, exec (.withdrawalTimerExpiry inp) s = .next t
        ∧ exec (.blockStrobe inp) s = .next t ∧ t.station = .running
        ∧ (∀ p, (t.ports.get p).holder = s.keptHolder inp p)
        ∧ t.sent = some frame ∧ byteAt frame 1 = 1 ∧ byteAt frame 6 = 0 ∧ t.told (.withdrawDenied held)
        ∧ held = ((List.finRange 8).filter fun p => (s.keptHolder inp p).isSome).length ∧ 1 ≤ held ∧ held ≤ 8))

/-- The level monitor at a taken strobe (R65 to R67): the peak is the largest magnitude of the captured block, the block
is active when the peak is at least the threshold, an active block zeroes the quiet count and disarms, a quiet one
counts up to 600 and arms there (QUIET_RUN_COMPLETE), and an armed port in SCREEN or HOLD with notice on raises
PARTY_ACTIVE; IDLE and OUT_OF_SERVICE ports are not measured, and a port that a group fault (R60) or the entry to
CLOSING (R58) moves there at the strobe has its monitor reset instead (R55). That QUIET_RUN_COMPLETE is the whole strobe
is the model's choice (log entry 3). -/
def Obligations.TheLevelMonitorMeasures : Prop :=
  ∀ (s : State) (inp : StrobeInput) (p : Fin 8), s.takesStrobes →
    ∃ t, exec (.blockStrobe inp) s = .next t
      ∧ let before := s.ports.get p
        let after := t.ports.get p
        let block := s.capture.get ⟨p.val, by omega⟩
        let closes := s.stationName = .withdrawing ∧ t.stationName = .closing
        let moved := s.faults inp p = true ∧ before.state ≠ .outOfService
          ∨ closes ∧ (before.state = .screen ∨ before.state = .hold ∨ before.state = .air)
        (moved → after.peak = 0 ∧ after.activity = false ∧ after.quiet = 0 ∧ after.armed = false)
        ∧ (¬moved → before.state = .screen ∨ before.state = .hold ∨ before.state = .air →
          (∀ n, (block.get n).natAbs ≤ after.peak) ∧ (∃ n, (block.get n).natAbs = after.peak)
          ∧ (after.activity = true ↔ before.threshold ≤ after.peak)
          ∧ (after.activity = true → after.quiet = 0 ∧ after.armed = false
            ∧ (before.state ≠ .air → before.notice = true → before.armed = true →
              t.told (.partyActive p before.state)))
          ∧ (after.activity = false → after.quiet = min 600 (before.quiet + 1)
            ∧ (after.armed = true ↔ 599 ≤ before.quiet))
          ∧ (before.quiet = 599 → (∀ n, (block.get n).natAbs < before.threshold) →
            exec (.quietRunComplete inp p) s = .next t ∧ after.quiet = 600 ∧ after.armed = true))
        ∧ (¬moved → before.state = .idle ∨ before.state = .outOfService →
          after.peak = before.peak ∧ after.activity = before.activity ∧ after.quiet = before.quiet
          ∧ after.armed = before.armed)

/-- The fault inputs at a taken strobe (R59 to R61): each group's level is recorded; a change to asserted forces its
ports OUT_OF_SERVICE with empty claims, talkback off, the monitor reset and silent returns, and raises GROUP_FAULT with
the number moved; a change to negated raises GROUP_CLEAR with the number out of service and brings no port back. A port
that no group fault takes out keeps its state and its talkback (R53, R57, R131) unless the station enters CLOSING, where
it goes IDLE, if in service, with talkback off (R58); and where no claim update is due (R90) it keeps its claims, unless
the station enters CONFLICT (R20). -/
def Obligations.GroupFaultsTakePortsOut : Prop :=
  ∀ (s : State) (inp : StrobeInput), s.takesStrobes →
    ∃ t, exec (.blockStrobe inp) s = .next t
      ∧ t.levelA = inp.faultA ∧ t.levelB = inp.faultB
      ∧ (∀ (g : Group) (sample level : Bool),
        (g = .a ∧ sample = inp.faultA ∧ level = s.levelA ∨ g = .b ∧ sample = inp.faultB ∧ level = s.levelB) →
        (level = false → sample = true →
          t.told (.groupFault g ((portsOf g).filter fun p => (s.ports.get p).state != .outOfService).length)
          ∧ ∀ p ∈ portsOf g, (t.ports.get p).state = .outOfService ∧ t.output.get p = Block.zero
            ∧ ((s.ports.get p).state ≠ .outOfService → (t.ports.get p).holder = none ∧ (t.ports.get p).queue = []
              ∧ (t.ports.get p).talkback = false ∧ (t.ports.get p).peak = 0 ∧ (t.ports.get p).activity = false
              ∧ (t.ports.get p).quiet = 0 ∧ (t.ports.get p).armed = false))
        ∧ (level = true → sample = false →
          t.told (.groupClear g ((portsOf g).filter fun p => (s.ports.get p).state == .outOfService).length))
        ∧ (sample = level → ∀ p ∈ portsOf g, (s.ports.get p).state = .outOfService →
          (t.ports.get p).state = .outOfService)
        ∧ (sample = false → ∀ p, (s.ports.get p).state = .outOfService → (t.ports.get p).state = .outOfService))
      ∧ ∀ p,
        let before := s.ports.get p
        let after := t.ports.get p
        let closes := s.stationName = .withdrawing ∧ t.stationName = .closing
        ¬(s.faults inp p = true ∧ before.state ≠ .outOfService) →
          (¬closes → after.state = before.state ∧ after.talkback = before.talkback)
          ∧ (closes → after.state = (if before.state = .outOfService then .outOfService else .idle)
            ∧ after.talkback = false)
          ∧ (s.active = false → t.active = false → (t.stationName = .conflict → s.stationName = .conflict) →
            after.holder = before.holder ∧ after.queue = before.queue)

/-- The claim update at a taken strobe of a station that is RUNNING or WITHDRAWING, or enters RUNNING (R90 to R95, R100,
R104): a port that a group fault takes out has no claim left (R60, R98); claims from a lane that goes ABSENT are
dropped, one whose lane is heard without its want is released or removed, the new wants join the queue in lane and
channel order while it has room and the port is served, and in RUNNING a port in AIR without a holder gives the claim to
the head of its queue. -/
def Obligations.StrobesUpdateTheClaims : Prop :=
  mixTagsInOrder.Pairwise (fun a b => 16 * a.station.val + a.channel.val < 16 * b.station.val + b.channel.val)
  ∧ (∀ tag : Tag, tag ∈ mixTagsInOrder ↔ tag.kind = .mix)
  ∧ ∀ (s : State) (inp : StrobeInput) (p : Fin 8), s.inReset = false →
    (s.active = true ∨ s.station = .starting (some 15) false) → (s.verdict = .mismatched → s.echoMismatch < 2) →
    ∃ t, exec (.blockStrobe inp) s = .next t
      ∧ let before := s.ports.get p
        let after := t.ports.get p
        let heard := heardWants (s.blockFrames s.verdict) (s.portTag p)
        let forced := s.faults inp p = true ∧ before.state ≠ .outOfService
        let kept := s.keptHolder inp p
        let waiting := if forced then [] else before.queue.filter (s.keepsClaim p)
        let news := mixTagsInOrder.filter fun m => s.asks p m && kept != some m && !waiting.contains m
        let queue := if before.served ∧ ¬forced then waiting ++ news.take (4 - waiting.length) else waiting
        (∀ l, heard l = none ↔ ∀ f, s.blockFrame s.verdict l ≠ .valid f)
        ∧ (∀ l f m, s.blockFrame s.verdict l = .valid f →
          (m ∈ (heard l).getD [] ↔ m.station = l ∧ m.kind = .mix ∧ (m, s.portTag p) ∈ f.wants))
        ∧ ((∀ timer, s.station ≠ .withdrawing timer) →
          (kept = none → before.state = .air → ¬forced → after.holder = queue.head? ∧ after.queue = queue.tail)
          ∧ (kept ≠ none ∨ before.state ≠ .air ∨ forced → after.holder = kept ∧ after.queue = queue))
        ∧ ((∃ timer, s.station = .withdrawing timer) → t.stationName ≠ .closing →
          after.holder = kept ∧ after.queue = queue)
        ∧ ∀ h, before.holder = some h → ¬forced →
          goesAbsent (s.lanes.get h.station) (s.blockFrame s.verdict h.station) = true → t.told (.claimDropped p h)

/-- The returns and the cadence at a taken strobe (R116, R117, R122, R124, R136): a served port of a RUNNING or
WITHDRAWING station gets its built return, from the directory after the strobe's delivery and the history before the
strobe's frame, and its misses and saturations are counted, the first miss raising CANCEL_MISS while the flag is
clear; every other port gets sixteen zeros and counts nothing; and the cadence counter of a port in HOLD advances,
whether or not its return is built. -/
def Obligations.StrobesPlayTheReturns : Prop :=
  ∀ (s : State) (inp : StrobeInput), s.takesStrobes →
    ∃ t, exec (.blockStrobe inp) s = .next t ∧ ∀ p,
      let view := { s with directory := t.directory }
      let misses := view.cancelMisses p
      (t.active = true → (t.ports.get p).served = true →
        t.output.get p = view.builtReturn p
        ∧ (t.ports.get p).misses = min 65535 ((s.ports.get p).misses + misses.length)
        ∧ (t.ports.get p).saturations = min 65535 ((s.ports.get p).saturations
            + ((List.finRange 16).filter fun n =>
                (view.paddedSum p).get n != (view.builtReturn p).get n).length)
        ∧ ((t.ports.get p).missReported = true ↔ (s.ports.get p).missReported = true ∨ misses ≠ [])
        ∧ (∀ tag cause rest, misses = (tag, cause) :: rest → (s.ports.get p).missReported = false →
          t.told (.cancelMiss p tag cause)))
      ∧ (t.active = false ∨ (t.ports.get p).served = false →
        t.output.get p = Block.zero ∧ (t.ports.get p).misses = (s.ports.get p).misses
        ∧ (t.ports.get p).saturations = (s.ports.get p).saturations
        ∧ (t.ports.get p).missReported = (s.ports.get p).missReported)
      ∧ (t.ports.get p).counter =
          (if (t.ports.get p).state = .hold then
            (if (s.ports.get p).counter + 1 = (s.ports.get p).period then 0 else (s.ports.get p).counter + 1)
          else (s.ports.get p).counter)

/-- What a built return is (R41, R47, R48, R50, R118 to R124, R132, R133, R137, R138): the exact sum of the
contributions of the recipe that the port's state names, and of the talkback term or the hold tone, padded and saturated
to 24 bits; and what each entry contributes, the cases of R121 in their order. -/
def Obligations.ReturnsSumTheirContributions : Prop :=
  ∀ (s : State) (p : Fin 8),
    let q := s.ports.get p
    let minus := s.minusSet p
    (∀ n : Fin 16, ∀ recipe,
      (q.state = .screen ∧ recipe = q.screenRecipe ∨ q.state = .hold ∧ recipe = q.holdRecipe
        ∨ q.state = .air ∧ recipe = q.airRecipe) →
      (s.returnSum p).get n = (recipe.map fun e => (s.contribution p e).at n).sum
        + (if q.talkback then
            match q.source.bind s.freshEntry with
            | some e => roundedProduct (e.samples.get n) q.talkGain
            | none => 0
          else if q.state = .hold ∧ q.counter < q.onTime then
            if n.val < 8 then (q.amplitude : Int) else -(q.amplitude : Int)
          else 0)
      ∧ (s.builtReturn p).get n = max (-8388608) (min 8388607 ((s.paddedSum p).get n))
      ∧ s.cancelMisses p = recipe.filterMap fun e =>
          match s.contribution p e with
          | .miss cause => some (e.tag, cause)
          | _ => none)
    ∧ ∀ (entry : RecipeEntry) (gain : Nat),
      gain = (if q.talkback then (entry.gain * q.duck + 4096) / 8192 else entry.gain) →
      (s.freshEntry entry.tag = none → s.contribution p entry = .gap)
      ∧ (∀ e, s.freshEntry entry.tag = some e →
        (entry.tag.kind ≠ .mix → s.contribution p entry = .samples (tab fun n => roundedProduct (e.samples.get n) gain))
        ∧ (entry.tag.kind = .mix → ∀ record, e.body = .mix record →
          let own := record.terms.filter fun t => minus.contains t.1
          (own = [] → s.contribution p entry = .samples (tab fun n => roundedProduct (e.samples.get n) gain))
          ∧ (own ≠ [] → record.clip = true → s.contribution p entry = .miss .clipped)
          ∧ (own ≠ [] → record.clip = false → ∀ stamp, stampOf record s.stationNumber = some stamp →
            ((∀ r ∈ s.history, r.sequence ≠ stamp) → s.contribution p entry = .miss .unrecorded)
            ∧ ((∃ r ∈ s.history, r.sequence = stamp) →
              (∃ t ∈ own, lookup s.history stamp t.1.channel = .incomplete) →
              s.contribution p entry = .miss .incomplete)
            ∧ ∀ recorded : Tag → Block,
              (∀ t ∈ own, lookup s.history stamp t.1.channel = .found (recorded t.1)) →
              s.contribution p entry = .samples (tab fun n => roundedProduct
                (e.samples.get n - (own.map fun t => roundedProduct ((recorded t.1).get n) t.2).sum) gain))))

/-- The frame of a taken strobe (R5 to R7, R83, R101, R113, R114, R178): a RUNNING or WITHDRAWING station sends a NORMAL
frame with the counter's sequence, which then advances, showing the served ports, all feeds and the LIVE mixes in
channel order, with the descriptor of each (a party's state, activity bit, holder and pending count after the strobe's
updates), the wants by mix and then in term-list order, a record for each LIVE mix in mix order, and the samples
captured or composed; it records its own PARTY and FEED samples in the history, by the table of R114 (log entry 29); a
station that sends nothing keeps counter and history; and the capture buffers begin a new block. -/
def Obligations.StrobesSendTheFrame : Prop :=
  ∀ (s : State) (inp : StrobeInput), s.takesStrobes →
    ∃ t, exec (.blockStrobe inp) s = .next t ∧ t.position = 0 ∧ (∀ c, t.capture.get c = Block.zero)
      ∧ (t.active = true →
        let content := ({ t with capture := s.capture }).normalContent
        let new : HistoryRecord :=
          { sequence := s.sequence
            channels := (List.finRange 12).filterMap fun c =>
              if 8 ≤ c.val ∨ (t.ports.get ⟨c.val % 8, by omega⟩).served = true then
                some (⟨c.val, by omega⟩, s.capture.get c)
              else none }
        t.sent = some (frameBytes s.stationNumber s.sequence content)
        ∧ t.lout = .driven (frameBytes s.stationNumber s.sequence content) ∧ t.sequence = s.sequence + 1
        ∧ content.kind = 1 ∧ (content.withdrawing = true ↔ t.stationName = .withdrawing)
        ∧ (∀ p : Fin 8, portChannel p ∈ content.shown ↔ (t.ports.get p).served = true)
        ∧ (∀ c : Fin 16, kindOfChannel c = .feed → c ∈ content.shown)
        ∧ (∀ m : Fin 4, mixChannel m ∈ content.shown ↔ (t.mixes.get m).live = true)
        ∧ content.shown.Pairwise (· < ·)
        ∧ content.descriptors = content.shown.map (fun c =>
            if 8 ≤ c.val then [0, 0, 0, 0]
            else
              let q := t.ports.get ⟨c.val % 8, by omega⟩
              [match q.state with | .screen => 1 | .hold => 2 | .air => 3 | _ => 0,
                (if q.activity then 1 else 0) ||| (if q.holder.isSome then 2 else 0),
                match q.holder with | none => 0 | some h => tagByte h, BitVec.ofNat 8 q.queue.length])
        ∧ content.wants = ((List.finRange 4).filter fun m => (t.mixes.get m).live).flatMap (fun m =>
            ((t.mixes.get m).terms.filter fun e => decide (e.tag.kind = .party)).map fun e => (s.mixTag m, e.tag))
        ∧ content.records = ((List.finRange 4).filter fun m => (t.mixes.get m).live).map (fun m =>
            mixRecord m (t.included m))
        ∧ content.samples = content.shown.map (fun c =>
            if h : c.val < 12 then s.capture.get ⟨c.val, h⟩
            else mixSamples (t.included ⟨c.val % 4, by omega⟩))
        ∧ (s.history = [] → t.history = [new])
        ∧ ∀ newest, s.history.getLast? = some newest →
          (s.sequence = newest.sequence + 1 →
            t.history = (s.history ++ [new]).drop ((s.history ++ [new]).length - 8))
          ∧ (s.sequence ≠ newest.sequence + 1 → t.history = [new]))
      ∧ (t.stationName = .starting ∨ t.stationName = .conflict ∨ t.station = .withdrawn none →
        t.sent = none ∧ t.sequence = s.sequence ∧ t.history = s.history)

/-- The mixes at a taken strobe (R43, R44, R77 to R82, R85 to R87): a term is included when its entry is fresh and, for
a PARTY, names the mix as holder; a LIVE mix of a RUNNING or WITHDRAWING station is composed, its included count and
clip flag kept; its record holds its channel, the included terms in list order and, lanes ascending, one stamp for each
lane that supplied one, the sequence of the entries taken; and in every state the claim status of each PARTY term is
decided, a change into HELD raising CLAIM_GAINED and a change out of it CLAIM_LOST. -/
def Obligations.StrobesComposeTheMixes : Prop :=
  ∀ (s : State) (inp : StrobeInput), s.takesStrobes →
    ∃ t, exec (.blockStrobe inp) s = .next t ∧ ∀ m,
      let before := s.mixes.get m
      let after := t.mixes.get m
      let fresh := fun tag : Tag => (t.entry tag).filter fun e => e.fresh
      let status := fun e : Term =>
        match t.entry e.tag with
        | none => some ClaimStatus.unheard
        | some x => if x.fresh then (if x.holder = some (s.mixTag m) then some .held else some .waiting) else e.status
      let included := after.terms.filterMap fun e =>
        ((fresh e.tag).filter fun x => e.tag.kind != .party || x.holder == some (s.mixTag m)).map fun x => (e, x)
      let sum := fun n : Fin 16 => (included.map fun i => roundedProduct (i.2.samples.get n) i.1.coefficient).sum
      after.terms = before.terms.map (fun e => if e.status = none then e else { e with status := status e })
      ∧ (∀ e ∈ before.terms, e.status = some .held → status e ≠ some .held → ∀ x, status e = some x →
        t.told (.claimLost (s.mixTag m) e.tag x))
      ∧ (∀ e ∈ before.terms, e.status = some .waiting ∨ e.status = some .unheard → status e = some .held →
        t.told (.claimGained (s.mixTag m) e.tag))
      ∧ t.included m = included
      ∧ (∀ n, (mixSamples (t.included m)).get n = max (-134217728) (min 134217727 (sum n)))
      ∧ (mixRecord m (t.included m)).channel.val = 12 + m.val
      ∧ (mixRecord m (t.included m)).terms = included.map (fun i => (i.1.tag, i.1.coefficient))
      ∧ ((mixRecord m (t.included m)).stamps.map (·.1)).Pairwise (· < ·)
      ∧ (∀ l q, (l, q) ∈ (mixRecord m (t.included m)).stamps ↔
          ∃ i ∈ included, i.1.tag.station = l ∧ i.2.sequence = q)
      ∧ ((mixRecord m (t.included m)).clip = true ↔ ∃ n, 134217727 < sum n ∨ sum n < -134217728)
      ∧ (t.active = true → after.live = true →
        after.lastIncluded = included.length ∧ after.lastClip = (mixRecord m (t.included m)).clip)
      ∧ (t.active = false ∨ after.live = false →
        after.lastIncluded = before.lastIncluded ∧ after.lastClip = before.lastClip)
      ∧ (after.live = true ↔ before.live = true ∧ (s.stationName = .closing ∨ t.stationName ≠ .closing))

/-! ## Arithmetic -/

/-- The rounded product (R40): its formula, the properties its table lists, its rounding to nearest with halves going
up, that a negative value is not the negative, its ranges for samples and cleaned values, and that a term is taken out
of a mix by recomputing it. -/
def Obligations.RoundedProductIsExact : Prop :=
  (∀ (v : Int) (c : Nat), roundedProduct v c = ⌊((v * c + 4096 : Int) : ℚ) / 8192⌋)
  ∧ (∀ (v : Int) (c : Nat), 8192 * roundedProduct v c - 4096 ≤ v * c ∧ v * c < 8192 * roundedProduct v c + 4096)
  ∧ (∀ v : Int, roundedProduct v 0 = 0 ∧ roundedProduct v 8192 = v ∧ roundedProduct v 16384 = 2 * v
    ∧ roundedProduct v 32768 = 4 * v)
  ∧ (∀ (v w : Int) (c : Nat), v ≤ w → roundedProduct v c ≤ roundedProduct w c)
  ∧ (∀ (v : Int) (c : Nat) (k : Int), 2 * (v * c) = 8192 * (2 * k - 1) → roundedProduct v c = k)
  ∧ roundedProduct 3 4096 = 2 ∧ roundedProduct (-3) 4096 = -1
  ∧ (∀ (v : Int) (c : Nat), -8388608 ≤ v → v ≤ 8388607 → c ≤ 32768 →
    -33554432 ≤ roundedProduct v c ∧ roundedProduct v c ≤ 33554428)
  ∧ (∀ (v : Int) (c : Nat), -268435440 ≤ v → v ≤ 268435455 → c ≤ 32768 →
    -1073741760 ≤ roundedProduct v c ∧ roundedProduct v c ≤ 1073741820)
  ∧ ∀ (wide : Block) (recorded : List (Block × Nat)) (n : Fin 16),
    (cleaned wide recorded).get n = wide.get n - (recorded.map fun r => roundedProduct (r.1.get n) r.2).sum

/-- The accumulator (R42): how a term is added to its register and carry count; that it stands for the exact sum of the
terms added, in any order; that with terms of magnitude at most 1,073,741,824 its register stays a 32-bit signed value
and each addition moves the carry count by at most 1; that within a mix the carry count stays 0 and within a return from
-2 to +2; and that the sums of the mixes and of the returns are formed in it at each position, limited after the last
term. -/
def Obligations.AccumulatorsAreExact : Prop :=
  (∀ (register carry term : Int), let acc : Accumulator := { register := register, carry := carry }
    accValue acc = register + carry * 2 ^ 32
    ∧ (2 ^ 31 - 1 < register + term → accAdd acc term = { register := register + term - 2 ^ 32, carry := carry + 1 })
    ∧ (register + term < -2 ^ 31 → accAdd acc term = { register := register + term + 2 ^ 32, carry := carry - 1 })
    ∧ (-2 ^ 31 ≤ register + term → register + term ≤ 2 ^ 31 - 1 →
      accAdd acc term = { register := register + term, carry := carry }))
  ∧ (∀ terms : List Int, accumulate terms = terms.sum)
  ∧ (∀ terms other : List Int, terms.Perm other → accumulate terms = accumulate other)
  ∧ (∀ (terms : List Int) (term : Int), (∀ x ∈ terms, x.natAbs ≤ 1073741824) → term.natAbs ≤ 1073741824 →
    let acc := terms.foldl accAdd accStart
    (-2147483648 ≤ acc.register ∧ acc.register ≤ 2147483647)
    ∧ ((accAdd acc term).carry - acc.carry).natAbs ≤ 1)
  ∧ (∀ terms : List Int, terms.length ≤ 48 → (∀ x ∈ terms, -33554432 ≤ x ∧ x ≤ 33554428) →
    (terms.foldl accAdd accStart).carry = 0)
  ∧ (∀ (entries : List Int) (last : Int), entries.length ≤ 6 →
    (∀ x ∈ entries, -1073741760 ≤ x ∧ x ≤ 1073741820) → -33554432 ≤ last → last ≤ 33554428 →
    (entries.foldl accAdd accStart).carry.natAbs ≤ 2
    ∧ ((entries ++ [last]).foldl accAdd accStart).carry.natAbs ≤ 2)
  ∧ (∀ (included : List (Term × Entry)) (n : Fin 16), (mixSamples included).get n =
    saturate28 (included.map fun i => roundedProduct (i.2.samples.get n) i.1.coefficient).sum)
  ∧ ∀ (s : State) (p : Fin 8) (n : Fin 16), (s.builtReturn p).get n = saturate24 (padded (s.ports.get p).pad
    ((s.contributions p).map (fun c => c.at n) ++ (s.cueAddition (s.ports.get p)).toList.map fun b => b.get n).sum)

/-- The pad (R49): the port's pad halves the return sum that many times, rounded to nearest with halves going up, the
same at every position; with the rows of its table. -/
def Obligations.PadsHalveTheSum : Prop :=
  (∀ (s : State) (p : Fin 8) (n : Fin 16), (s.paddedSum p).get n =
    if (s.ports.get p).pad = 0 then (s.returnSum p).get n
    else ⌊(((s.returnSum p).get n + 2 ^ ((s.ports.get p).pad - 1) : Int) : ℚ) / 2 ^ (s.ports.get p).pad⌋)
  ∧ (∀ (k : Nat) (v r : Int), r = padded k v → 2 ^ (k + 1) * r - 2 ^ k ≤ 2 * v ∧ 2 * v < 2 ^ (k + 1) * r + 2 ^ k)
  ∧ (∀ v : Int, padded 0 v = v)
  ∧ padded 0 5 = 5 ∧ padded 0 (-5) = -5 ∧ padded 0 (-7) = -7
  ∧ padded 1 5 = 3 ∧ padded 1 (-5) = -2 ∧ padded 1 (-7) = -3
  ∧ padded 2 5 = 1 ∧ padded 2 (-5) = -1 ∧ padded 2 (-7) = -2
  ∧ padded 3 5 = 1 ∧ padded 3 (-5) = -1 ∧ padded 3 (-7) = -1
  ∧ padded 6 5 = 0 ∧ padded 6 (-5) = 0 ∧ padded 6 (-7) = 0

/-- Exact cancellation (R45, R46, R107, R121): when a fresh mix block is not clipped, is the exact sum of its record's
terms over some source samples, and the outbound history holds those samples for every term of the port's minus set
under the record's stamp of the own lane, the entry contributes exactly the sum of the other terms at its gain, whatever
the samples of the minus set were. -/
def Obligations.CancellationIsExact : Prop :=
  ∀ (s : State) (p : Fin 8) (entry : RecipeEntry) (e : Entry) (record : CompRecord) (source : Tag → Block)
    (stamp : Seq),
    entry.tag.kind = .mix → s.freshEntry entry.tag = some e → e.body = .mix record → record.clip = false →
    (∀ n, e.samples.get n = (record.terms.map fun t => roundedProduct ((source t.1).get n) t.2).sum) →
    stampOf record s.stationNumber = some stamp →
    (∀ t ∈ record.terms, t.1 ∈ s.minusSet p → lookup s.history stamp t.1.channel = .found (source t.1)) →
    s.contribution p entry = .samples (tab fun n => roundedProduct
      ((record.terms.filter fun t => decide (t.1 ∉ s.minusSet p)).map fun t =>
        roundedProduct ((source t.1).get n) t.2).sum
      (effectiveGain (s.ports.get p) entry.gain))

/-! ## Formats -/

/-- Tags, counts and sequences (R174): a byte and a tag name each other, the station in the high four bits; the channel
fixes the kind; a tag that may be absent is carried with its presence apart; a count stops at 65,535 and a sequence
wraps there. -/
def Obligations.TagsAndCountsAreCoded : Prop :=
  (∀ b : Byte, tagByte (tagOfByte b) = b) ∧ (∀ tag : Tag, tagOfByte (tagByte tag) = tag)
  ∧ (∀ tag : Tag, (tagByte tag).toNat = 16 * tag.station.val + tag.channel.val)
  ∧ tagOfByte 0xFF = { station := 15, channel := 15 }
  ∧ (∀ tag : Tag, (tag.kind = .party ↔ tag.channel.val ≤ 7)
    ∧ (tag.kind = .feed ↔ 8 ≤ tag.channel.val ∧ tag.channel.val ≤ 11) ∧ (tag.kind = .mix ↔ 12 ≤ tag.channel.val))
  ∧ optTag none = [0, 0] ∧ (∀ tag, optTag (some tag) = [1, tagByte tag])
  ∧ (∀ b : Byte, sourceArg 0 b = some none ∧ sourceArg 1 b = some (some (tagOfByte b)))
  ∧ (∀ (state flags holder count : Byte) (st : PortState) (activity : Bool) (h : Option Tag) (k : Nat),
    partyBody state flags holder count = some (.party st activity h k) →
    h = if flags.getLsbD 1 then some (tagOfByte holder) else none)
  ∧ (∀ count more : Nat, addCount count more = if count + more ≤ 65535 then count + more else 65535)
  ∧ (65535 : Seq) + 1 = 0 ∧ ∀ q : Seq, q ≠ 65535 → (q + 1).toNat = q.toNat + 1

/-- A frame laid out by the layouts of R175 from what a frame can carry (the shown channels ascending, a 4-byte
descriptor and sixteen 32-bit samples for each, at most 64 wants and four records, each with as many terms and stamps as
its bytes can count) passes the tests of reception on its own lane, a TEST frame as a test frame, and is a station
mismatch on any other; its length is the one R175 gives, at most 2,148; and what a receiver reads from it is what was
laid out. -/
def Obligations.FramesReadBackAsSent : Prop :=
  ∀ (station : Fin 16) (sequence : Seq) (c : FrameContent),
    1 ≤ c.kind → c.kind ≤ 3 →
    (∃ shows : Fin 16 → Bool, c.shown = (List.finRange 16).filter shows) →
    c.descriptors.length = c.shown.length → (∀ d ∈ c.descriptors, d.length = 4) →
    c.samples.length = c.shown.length →
    (∀ b ∈ c.samples, ∀ n, -2147483648 ≤ b.get n ∧ b.get n ≤ 2147483647) →
    c.wants.length ≤ 64 → c.records.length ≤ 4 →
    (∀ r ∈ c.records, r.terms.length ≤ 48 ∧ r.stamps.length ≤ 16 ∧ ∀ t ∈ r.terms, t.2 ≤ 65535) →
    let bytes := frameBytes station sequence c
    checkFrame station bytes .atLength
        = { bytes := bytes, cls := if c.kind = 3 then .testFrame else .good }
    ∧ (∀ lane, lane ≠ station → (checkFrame lane bytes .atLength).cls = .stationMismatch)
    ∧ bytes.length = 20 + 68 * c.shown.length + 2 * c.wants.length
        + (c.records.map fun r => 4 + 2 * r.stamps.length + 4 * r.terms.length).sum
    ∧ bytes.length ≤ 2148
    ∧ (readFrame bytes).final = decide (c.kind = 2) ∧ (readFrame bytes).sequence = sequence
    ∧ (readFrame bytes).withdrawing = c.withdrawing
    ∧ (readFrame bytes).sections.shown = c.shown
    ∧ (readFrame bytes).sections.descriptors = c.descriptors.flatten
    ∧ (readFrame bytes).sections.wants = c.wants
    ∧ (readFrame bytes).sections.records = c.records.map (fun r =>
        { channel := BitVec.ofNat 8 r.channel.val, stamps := r.stamps.map (·.2), terms := r.terms, clip := r.clip })
    ∧ ∀ (k : Nat) (b : Block), c.samples[k]? = some b → blockAt (readFrame bytes).sections.samples k = b

/-! ## Invariants -/

/-- The state right after reset meets every invariant stated below. -/
def Obligations.ResetIsSound : Prop :=
  State.reset.SettingsSound ∧ State.reset.ClaimsSound ∧ State.reset.MixesSound ∧ State.reset.DirectorySound
  ∧ State.reset.BooksSound ∧ State.reset.SamplesSound

/-- Every step keeps every port's settings in their ranges (R37, R38, R51, R66, R106, R128, R135) and its minus set
guarded: no direct entry and no talkback source names a tag of it (R105, R107). -/
def Obligations.StepsKeepTheSettingsSound : Prop :=
  ∀ s t : State, s.SettingsSound → step s = .next t → t.SettingsSound

/-- Every step keeps the claim records sound: at most four queued mixes, none twice and none the holder (R88); a holder
only in AIR on a RUNNING or WITHDRAWING station (R90, R95); nothing in IDLE and OUT_OF_SERVICE, and talkback off there
(R98, R131). -/
def Obligations.StepsKeepTheClaimsSound : Prop :=
  ∀ s t : State, s.ClaimsSound → step s = .next t → t.ClaimsSound

/-- Every step keeps the mixes within R71 and the counts, queues and records within their ranges (R2, R10, R16, R19,
R113, R114, R141, R153, R159, R168, R169, R171, R178), and LOUT released in every station state that sends
nothing (R6). -/
def Obligations.StepsKeepTheBooksSound : Prop :=
  ∀ s t : State, step s = .next t → (s.MixesSound → t.MixesSound) ∧ (s.BooksSound → t.BooksSound)

/-- Every step keeps the directory in agreement with the lanes: no entry of an ABSENT lane, fresh entries of age 0 on a
lane whose last frame was taken, and entries exactly as old as the misses, at most 7, on a LAPSED lane (R24, R27,
R28). -/
def Obligations.StepsKeepTheDirectorySound : Prop :=
  ∀ s t : State, s.DirectorySound → step s = .next t → t.DirectorySound

/-- Every step keeps every stored sample in the range of its kind: what is captured, recorded, filed and played (R26,
R36, R50, R51). -/
def Obligations.StepsKeepTheSamplesInRange : Prop :=
  ∀ s t : State, s.SamplesSound → step s = .next t → t.SamplesSound
end

