-- ==== Sys2Proof/Laws/State.lean ====
section
/-! SUPPORT. What each named update of the state leaves in each field, the reading of tables, and the event queue. -/

namespace Sys2Proof

theorem vector_get {α : Type} {n : Nat} (v : Vector α n) (i : Fin n) : v.get i = v[i.val] := rfl

@[simp] theorem tab_get {α : Type} {n : Nat} (f : Fin n → α) (i : Fin n) : (tab f).get i = f i := by
  rw [vector_get]; simp [tab]

@[simp] theorem upd_get_same {α : Type} {n : Nat} (v : Vector α n) (i : Fin n) (f : α → α) :
    (upd v i f).get i = f (v.get i) := by
  rw [vector_get]; simp [upd]

theorem upd_get_ne {α : Type} {n : Nat} (v : Vector α n) (i j : Fin n) (f : α → α) (h : i ≠ j) :
    (upd v i f).get j = v.get j := by
  have h' : i.val ≠ j.val := fun e => h (Fin.ext e)
  rw [vector_get, vector_get]; simp [upd, h']

theorem upd_get {α : Type} {n : Nat} (v : Vector α n) (i j : Fin n) (f : α → α) :
    (upd v i f).get j = if i = j then f (v.get j) else v.get j := by
  by_cases h : i = j
  · subst h; simp
  · simp [h, upd_get_ne v i j f h]

@[simp] theorem replicate_get {α : Type} {n : Nat} (a : α) (i : Fin n) : (Vector.replicate n a).get i = a := by
  rw [vector_get]; simp

theorem table_ext {α : Type} {n : Nat} {v w : Vector α n} (h : ∀ i, v.get i = w.get i) : v = w := by
  apply Vector.ext
  intro i hi
  have := h ⟨i, hi⟩
  rwa [vector_get, vector_get] at this

namespace Machine

/-! ## Named updates -/

@[simp] theorem State.updPort_pending (s : State) (p : Fin 8) (f : Port → Port) : (s.updPort p f).pending = s.pending := rfl
@[simp] theorem State.updPort_monitor (s : State) (p : Fin 8) (f : Port → Port) : (s.updPort p f).monitor = s.monitor := rfl
@[simp] theorem State.updPort_stationNumber (s : State) (p : Fin 8) (f : Port → Port) : (s.updPort p f).stationNumber = s.stationNumber := rfl
@[simp] theorem State.updPort_sequence (s : State) (p : Fin 8) (f : Port → Port) : (s.updPort p f).sequence = s.sequence := rfl
@[simp] theorem State.updPort_station (s : State) (p : Fin 8) (f : Port → Port) : (s.updPort p f).station = s.station := rfl
@[simp] theorem State.updPort_echoMismatch (s : State) (p : Fin 8) (f : Port → Port) : (s.updPort p f).echoMismatch = s.echoMismatch := rfl
@[simp] theorem State.updPort_resetCause (s : State) (p : Fin 8) (f : Port → Port) : (s.updPort p f).resetCause = s.resetCause := rfl
@[simp] theorem State.updPort_resets (s : State) (p : Fin 8) (f : Port → Port) : (s.updPort p f).resets = s.resets := rfl
@[simp] theorem State.updPort_lanes (s : State) (p : Fin 8) (f : Port → Port) : (s.updPort p f).lanes = s.lanes := rfl
@[simp] theorem State.updPort_sent (s : State) (p : Fin 8) (f : Port → Port) : (s.updPort p f).sent = s.sent := rfl
@[simp] theorem State.updPort_lout (s : State) (p : Fin 8) (f : Port → Port) : (s.updPort p f).lout = s.lout := rfl
@[simp] theorem State.updPort_directory (s : State) (p : Fin 8) (f : Port → Port) : (s.updPort p f).directory = s.directory := rfl
@[simp] theorem State.updPort_ports (s : State) (p : Fin 8) (f : Port → Port) : (s.updPort p f).ports = upd s.ports p f := rfl
@[simp] theorem State.updPort_levelA (s : State) (p : Fin 8) (f : Port → Port) : (s.updPort p f).levelA = s.levelA := rfl
@[simp] theorem State.updPort_levelB (s : State) (p : Fin 8) (f : Port → Port) : (s.updPort p f).levelB = s.levelB := rfl
@[simp] theorem State.updPort_mixes (s : State) (p : Fin 8) (f : Port → Port) : (s.updPort p f).mixes = s.mixes := rfl
@[simp] theorem State.updPort_history (s : State) (p : Fin 8) (f : Port → Port) : (s.updPort p f).history = s.history := rfl
@[simp] theorem State.updPort_link (s : State) (p : Fin 8) (f : Port → Port) : (s.updPort p f).link = s.link := rfl
@[simp] theorem State.updPort_events (s : State) (p : Fin 8) (f : Port → Port) : (s.updPort p f).events = s.events := rfl
@[simp] theorem State.updPort_overflow (s : State) (p : Fin 8) (f : Port → Port) : (s.updPort p f).overflow = s.overflow := rfl
@[simp] theorem State.updPort_capture (s : State) (p : Fin 8) (f : Port → Port) : (s.updPort p f).capture = s.capture := rfl
@[simp] theorem State.updPort_output (s : State) (p : Fin 8) (f : Port → Port) : (s.updPort p f).output = s.output := rfl
@[simp] theorem State.updPort_position (s : State) (p : Fin 8) (f : Port → Port) : (s.updPort p f).position = s.position := rfl
@[simp] theorem State.updPort_adout (s : State) (p : Fin 8) (f : Port → Port) : (s.updPort p f).adout = s.adout := rfl
@[simp] theorem State.updPort_freeCount (s : State) (p : Fin 8) (f : Port → Port) : (s.updPort p f).freeCount = s.freeCount := rfl

@[simp] theorem State.mapPorts_pending (s : State) (f : Fin 8 → Port → Port) : (s.mapPorts f).pending = s.pending := by cases s; rfl
@[simp] theorem State.mapPorts_monitor (s : State) (f : Fin 8 → Port → Port) : (s.mapPorts f).monitor = s.monitor := by cases s; rfl
@[simp] theorem State.mapPorts_stationNumber (s : State) (f : Fin 8 → Port → Port) : (s.mapPorts f).stationNumber = s.stationNumber := by cases s; rfl
@[simp] theorem State.mapPorts_sequence (s : State) (f : Fin 8 → Port → Port) : (s.mapPorts f).sequence = s.sequence := by cases s; rfl
@[simp] theorem State.mapPorts_station (s : State) (f : Fin 8 → Port → Port) : (s.mapPorts f).station = s.station := by cases s; rfl
@[simp] theorem State.mapPorts_echoMismatch (s : State) (f : Fin 8 → Port → Port) : (s.mapPorts f).echoMismatch = s.echoMismatch := by cases s; rfl
@[simp] theorem State.mapPorts_resetCause (s : State) (f : Fin 8 → Port → Port) : (s.mapPorts f).resetCause = s.resetCause := by cases s; rfl
@[simp] theorem State.mapPorts_resets (s : State) (f : Fin 8 → Port → Port) : (s.mapPorts f).resets = s.resets := by cases s; rfl
@[simp] theorem State.mapPorts_lanes (s : State) (f : Fin 8 → Port → Port) : (s.mapPorts f).lanes = s.lanes := by cases s; rfl
@[simp] theorem State.mapPorts_sent (s : State) (f : Fin 8 → Port → Port) : (s.mapPorts f).sent = s.sent := by cases s; rfl
@[simp] theorem State.mapPorts_lout (s : State) (f : Fin 8 → Port → Port) : (s.mapPorts f).lout = s.lout := by cases s; rfl
@[simp] theorem State.mapPorts_directory (s : State) (f : Fin 8 → Port → Port) : (s.mapPorts f).directory = s.directory := by cases s; rfl
@[simp] theorem State.mapPorts_ports (s : State) (f : Fin 8 → Port → Port) : (s.mapPorts f).ports = tab fun p => f p (s.ports.get p) := by cases s; rfl
@[simp] theorem State.mapPorts_levelA (s : State) (f : Fin 8 → Port → Port) : (s.mapPorts f).levelA = s.levelA := by cases s; rfl
@[simp] theorem State.mapPorts_levelB (s : State) (f : Fin 8 → Port → Port) : (s.mapPorts f).levelB = s.levelB := by cases s; rfl
@[simp] theorem State.mapPorts_mixes (s : State) (f : Fin 8 → Port → Port) : (s.mapPorts f).mixes = s.mixes := by cases s; rfl
@[simp] theorem State.mapPorts_history (s : State) (f : Fin 8 → Port → Port) : (s.mapPorts f).history = s.history := by cases s; rfl
@[simp] theorem State.mapPorts_link (s : State) (f : Fin 8 → Port → Port) : (s.mapPorts f).link = s.link := by cases s; rfl
@[simp] theorem State.mapPorts_events (s : State) (f : Fin 8 → Port → Port) : (s.mapPorts f).events = s.events := by cases s; rfl
@[simp] theorem State.mapPorts_overflow (s : State) (f : Fin 8 → Port → Port) : (s.mapPorts f).overflow = s.overflow := by cases s; rfl
@[simp] theorem State.mapPorts_capture (s : State) (f : Fin 8 → Port → Port) : (s.mapPorts f).capture = s.capture := by cases s; rfl
@[simp] theorem State.mapPorts_output (s : State) (f : Fin 8 → Port → Port) : (s.mapPorts f).output = s.output := by cases s; rfl
@[simp] theorem State.mapPorts_position (s : State) (f : Fin 8 → Port → Port) : (s.mapPorts f).position = s.position := by cases s; rfl
@[simp] theorem State.mapPorts_adout (s : State) (f : Fin 8 → Port → Port) : (s.mapPorts f).adout = s.adout := by cases s; rfl
@[simp] theorem State.mapPorts_freeCount (s : State) (f : Fin 8 → Port → Port) : (s.mapPorts f).freeCount = s.freeCount := by cases s; rfl

@[simp] theorem State.updLane_pending (s : State) (l : Fin 16) (f : Lane → Lane) : (s.updLane l f).pending = s.pending := rfl
@[simp] theorem State.updLane_monitor (s : State) (l : Fin 16) (f : Lane → Lane) : (s.updLane l f).monitor = s.monitor := rfl
@[simp] theorem State.updLane_stationNumber (s : State) (l : Fin 16) (f : Lane → Lane) : (s.updLane l f).stationNumber = s.stationNumber := rfl
@[simp] theorem State.updLane_sequence (s : State) (l : Fin 16) (f : Lane → Lane) : (s.updLane l f).sequence = s.sequence := rfl
@[simp] theorem State.updLane_station (s : State) (l : Fin 16) (f : Lane → Lane) : (s.updLane l f).station = s.station := rfl
@[simp] theorem State.updLane_echoMismatch (s : State) (l : Fin 16) (f : Lane → Lane) : (s.updLane l f).echoMismatch = s.echoMismatch := rfl
@[simp] theorem State.updLane_resetCause (s : State) (l : Fin 16) (f : Lane → Lane) : (s.updLane l f).resetCause = s.resetCause := rfl
@[simp] theorem State.updLane_resets (s : State) (l : Fin 16) (f : Lane → Lane) : (s.updLane l f).resets = s.resets := rfl
@[simp] theorem State.updLane_lanes (s : State) (l : Fin 16) (f : Lane → Lane) : (s.updLane l f).lanes = upd s.lanes l f := rfl
@[simp] theorem State.updLane_sent (s : State) (l : Fin 16) (f : Lane → Lane) : (s.updLane l f).sent = s.sent := rfl
@[simp] theorem State.updLane_lout (s : State) (l : Fin 16) (f : Lane → Lane) : (s.updLane l f).lout = s.lout := rfl
@[simp] theorem State.updLane_directory (s : State) (l : Fin 16) (f : Lane → Lane) : (s.updLane l f).directory = s.directory := rfl
@[simp] theorem State.updLane_ports (s : State) (l : Fin 16) (f : Lane → Lane) : (s.updLane l f).ports = s.ports := rfl
@[simp] theorem State.updLane_levelA (s : State) (l : Fin 16) (f : Lane → Lane) : (s.updLane l f).levelA = s.levelA := rfl
@[simp] theorem State.updLane_levelB (s : State) (l : Fin 16) (f : Lane → Lane) : (s.updLane l f).levelB = s.levelB := rfl
@[simp] theorem State.updLane_mixes (s : State) (l : Fin 16) (f : Lane → Lane) : (s.updLane l f).mixes = s.mixes := rfl
@[simp] theorem State.updLane_history (s : State) (l : Fin 16) (f : Lane → Lane) : (s.updLane l f).history = s.history := rfl
@[simp] theorem State.updLane_link (s : State) (l : Fin 16) (f : Lane → Lane) : (s.updLane l f).link = s.link := rfl
@[simp] theorem State.updLane_events (s : State) (l : Fin 16) (f : Lane → Lane) : (s.updLane l f).events = s.events := rfl
@[simp] theorem State.updLane_overflow (s : State) (l : Fin 16) (f : Lane → Lane) : (s.updLane l f).overflow = s.overflow := rfl
@[simp] theorem State.updLane_capture (s : State) (l : Fin 16) (f : Lane → Lane) : (s.updLane l f).capture = s.capture := rfl
@[simp] theorem State.updLane_output (s : State) (l : Fin 16) (f : Lane → Lane) : (s.updLane l f).output = s.output := rfl
@[simp] theorem State.updLane_position (s : State) (l : Fin 16) (f : Lane → Lane) : (s.updLane l f).position = s.position := rfl
@[simp] theorem State.updLane_adout (s : State) (l : Fin 16) (f : Lane → Lane) : (s.updLane l f).adout = s.adout := rfl
@[simp] theorem State.updLane_freeCount (s : State) (l : Fin 16) (f : Lane → Lane) : (s.updLane l f).freeCount = s.freeCount := rfl

@[simp] theorem State.mapLanes_pending (s : State) (f : Fin 16 → Lane → Lane) : (s.mapLanes f).pending = s.pending := by cases s; rfl
@[simp] theorem State.mapLanes_monitor (s : State) (f : Fin 16 → Lane → Lane) : (s.mapLanes f).monitor = s.monitor := by cases s; rfl
@[simp] theorem State.mapLanes_stationNumber (s : State) (f : Fin 16 → Lane → Lane) : (s.mapLanes f).stationNumber = s.stationNumber := by cases s; rfl
@[simp] theorem State.mapLanes_sequence (s : State) (f : Fin 16 → Lane → Lane) : (s.mapLanes f).sequence = s.sequence := by cases s; rfl
@[simp] theorem State.mapLanes_station (s : State) (f : Fin 16 → Lane → Lane) : (s.mapLanes f).station = s.station := by cases s; rfl
@[simp] theorem State.mapLanes_echoMismatch (s : State) (f : Fin 16 → Lane → Lane) : (s.mapLanes f).echoMismatch = s.echoMismatch := by cases s; rfl
@[simp] theorem State.mapLanes_resetCause (s : State) (f : Fin 16 → Lane → Lane) : (s.mapLanes f).resetCause = s.resetCause := by cases s; rfl
@[simp] theorem State.mapLanes_resets (s : State) (f : Fin 16 → Lane → Lane) : (s.mapLanes f).resets = s.resets := by cases s; rfl
@[simp] theorem State.mapLanes_lanes (s : State) (f : Fin 16 → Lane → Lane) : (s.mapLanes f).lanes = tab fun l => f l (s.lanes.get l) := by cases s; rfl
@[simp] theorem State.mapLanes_sent (s : State) (f : Fin 16 → Lane → Lane) : (s.mapLanes f).sent = s.sent := by cases s; rfl
@[simp] theorem State.mapLanes_lout (s : State) (f : Fin 16 → Lane → Lane) : (s.mapLanes f).lout = s.lout := by cases s; rfl
@[simp] theorem State.mapLanes_directory (s : State) (f : Fin 16 → Lane → Lane) : (s.mapLanes f).directory = s.directory := by cases s; rfl
@[simp] theorem State.mapLanes_ports (s : State) (f : Fin 16 → Lane → Lane) : (s.mapLanes f).ports = s.ports := by cases s; rfl
@[simp] theorem State.mapLanes_levelA (s : State) (f : Fin 16 → Lane → Lane) : (s.mapLanes f).levelA = s.levelA := by cases s; rfl
@[simp] theorem State.mapLanes_levelB (s : State) (f : Fin 16 → Lane → Lane) : (s.mapLanes f).levelB = s.levelB := by cases s; rfl
@[simp] theorem State.mapLanes_mixes (s : State) (f : Fin 16 → Lane → Lane) : (s.mapLanes f).mixes = s.mixes := by cases s; rfl
@[simp] theorem State.mapLanes_history (s : State) (f : Fin 16 → Lane → Lane) : (s.mapLanes f).history = s.history := by cases s; rfl
@[simp] theorem State.mapLanes_link (s : State) (f : Fin 16 → Lane → Lane) : (s.mapLanes f).link = s.link := by cases s; rfl
@[simp] theorem State.mapLanes_events (s : State) (f : Fin 16 → Lane → Lane) : (s.mapLanes f).events = s.events := by cases s; rfl
@[simp] theorem State.mapLanes_overflow (s : State) (f : Fin 16 → Lane → Lane) : (s.mapLanes f).overflow = s.overflow := by cases s; rfl
@[simp] theorem State.mapLanes_capture (s : State) (f : Fin 16 → Lane → Lane) : (s.mapLanes f).capture = s.capture := by cases s; rfl
@[simp] theorem State.mapLanes_output (s : State) (f : Fin 16 → Lane → Lane) : (s.mapLanes f).output = s.output := by cases s; rfl
@[simp] theorem State.mapLanes_position (s : State) (f : Fin 16 → Lane → Lane) : (s.mapLanes f).position = s.position := by cases s; rfl
@[simp] theorem State.mapLanes_adout (s : State) (f : Fin 16 → Lane → Lane) : (s.mapLanes f).adout = s.adout := by cases s; rfl
@[simp] theorem State.mapLanes_freeCount (s : State) (f : Fin 16 → Lane → Lane) : (s.mapLanes f).freeCount = s.freeCount := by cases s; rfl

@[simp] theorem State.updMix_pending (s : State) (m : Fin 4) (f : Mix → Mix) : (s.updMix m f).pending = s.pending := rfl
@[simp] theorem State.updMix_monitor (s : State) (m : Fin 4) (f : Mix → Mix) : (s.updMix m f).monitor = s.monitor := rfl
@[simp] theorem State.updMix_stationNumber (s : State) (m : Fin 4) (f : Mix → Mix) : (s.updMix m f).stationNumber = s.stationNumber := rfl
@[simp] theorem State.updMix_sequence (s : State) (m : Fin 4) (f : Mix → Mix) : (s.updMix m f).sequence = s.sequence := rfl
@[simp] theorem State.updMix_station (s : State) (m : Fin 4) (f : Mix → Mix) : (s.updMix m f).station = s.station := rfl
@[simp] theorem State.updMix_echoMismatch (s : State) (m : Fin 4) (f : Mix → Mix) : (s.updMix m f).echoMismatch = s.echoMismatch := rfl
@[simp] theorem State.updMix_resetCause (s : State) (m : Fin 4) (f : Mix → Mix) : (s.updMix m f).resetCause = s.resetCause := rfl
@[simp] theorem State.updMix_resets (s : State) (m : Fin 4) (f : Mix → Mix) : (s.updMix m f).resets = s.resets := rfl
@[simp] theorem State.updMix_lanes (s : State) (m : Fin 4) (f : Mix → Mix) : (s.updMix m f).lanes = s.lanes := rfl
@[simp] theorem State.updMix_sent (s : State) (m : Fin 4) (f : Mix → Mix) : (s.updMix m f).sent = s.sent := rfl
@[simp] theorem State.updMix_lout (s : State) (m : Fin 4) (f : Mix → Mix) : (s.updMix m f).lout = s.lout := rfl
@[simp] theorem State.updMix_directory (s : State) (m : Fin 4) (f : Mix → Mix) : (s.updMix m f).directory = s.directory := rfl
@[simp] theorem State.updMix_ports (s : State) (m : Fin 4) (f : Mix → Mix) : (s.updMix m f).ports = s.ports := rfl
@[simp] theorem State.updMix_levelA (s : State) (m : Fin 4) (f : Mix → Mix) : (s.updMix m f).levelA = s.levelA := rfl
@[simp] theorem State.updMix_levelB (s : State) (m : Fin 4) (f : Mix → Mix) : (s.updMix m f).levelB = s.levelB := rfl
@[simp] theorem State.updMix_mixes (s : State) (m : Fin 4) (f : Mix → Mix) : (s.updMix m f).mixes = upd s.mixes m f := rfl
@[simp] theorem State.updMix_history (s : State) (m : Fin 4) (f : Mix → Mix) : (s.updMix m f).history = s.history := rfl
@[simp] theorem State.updMix_link (s : State) (m : Fin 4) (f : Mix → Mix) : (s.updMix m f).link = s.link := rfl
@[simp] theorem State.updMix_events (s : State) (m : Fin 4) (f : Mix → Mix) : (s.updMix m f).events = s.events := rfl
@[simp] theorem State.updMix_overflow (s : State) (m : Fin 4) (f : Mix → Mix) : (s.updMix m f).overflow = s.overflow := rfl
@[simp] theorem State.updMix_capture (s : State) (m : Fin 4) (f : Mix → Mix) : (s.updMix m f).capture = s.capture := rfl
@[simp] theorem State.updMix_output (s : State) (m : Fin 4) (f : Mix → Mix) : (s.updMix m f).output = s.output := rfl
@[simp] theorem State.updMix_position (s : State) (m : Fin 4) (f : Mix → Mix) : (s.updMix m f).position = s.position := rfl
@[simp] theorem State.updMix_adout (s : State) (m : Fin 4) (f : Mix → Mix) : (s.updMix m f).adout = s.adout := rfl
@[simp] theorem State.updMix_freeCount (s : State) (m : Fin 4) (f : Mix → Mix) : (s.updMix m f).freeCount = s.freeCount := rfl

@[simp] theorem State.mapMixes_pending (s : State) (f : Fin 4 → Mix → Mix) : (s.mapMixes f).pending = s.pending := by cases s; rfl
@[simp] theorem State.mapMixes_monitor (s : State) (f : Fin 4 → Mix → Mix) : (s.mapMixes f).monitor = s.monitor := by cases s; rfl
@[simp] theorem State.mapMixes_stationNumber (s : State) (f : Fin 4 → Mix → Mix) : (s.mapMixes f).stationNumber = s.stationNumber := by cases s; rfl
@[simp] theorem State.mapMixes_sequence (s : State) (f : Fin 4 → Mix → Mix) : (s.mapMixes f).sequence = s.sequence := by cases s; rfl
@[simp] theorem State.mapMixes_station (s : State) (f : Fin 4 → Mix → Mix) : (s.mapMixes f).station = s.station := by cases s; rfl
@[simp] theorem State.mapMixes_echoMismatch (s : State) (f : Fin 4 → Mix → Mix) : (s.mapMixes f).echoMismatch = s.echoMismatch := by cases s; rfl
@[simp] theorem State.mapMixes_resetCause (s : State) (f : Fin 4 → Mix → Mix) : (s.mapMixes f).resetCause = s.resetCause := by cases s; rfl
@[simp] theorem State.mapMixes_resets (s : State) (f : Fin 4 → Mix → Mix) : (s.mapMixes f).resets = s.resets := by cases s; rfl
@[simp] theorem State.mapMixes_lanes (s : State) (f : Fin 4 → Mix → Mix) : (s.mapMixes f).lanes = s.lanes := by cases s; rfl
@[simp] theorem State.mapMixes_sent (s : State) (f : Fin 4 → Mix → Mix) : (s.mapMixes f).sent = s.sent := by cases s; rfl
@[simp] theorem State.mapMixes_lout (s : State) (f : Fin 4 → Mix → Mix) : (s.mapMixes f).lout = s.lout := by cases s; rfl
@[simp] theorem State.mapMixes_directory (s : State) (f : Fin 4 → Mix → Mix) : (s.mapMixes f).directory = s.directory := by cases s; rfl
@[simp] theorem State.mapMixes_ports (s : State) (f : Fin 4 → Mix → Mix) : (s.mapMixes f).ports = s.ports := by cases s; rfl
@[simp] theorem State.mapMixes_levelA (s : State) (f : Fin 4 → Mix → Mix) : (s.mapMixes f).levelA = s.levelA := by cases s; rfl
@[simp] theorem State.mapMixes_levelB (s : State) (f : Fin 4 → Mix → Mix) : (s.mapMixes f).levelB = s.levelB := by cases s; rfl
@[simp] theorem State.mapMixes_mixes (s : State) (f : Fin 4 → Mix → Mix) : (s.mapMixes f).mixes = tab fun m => f m (s.mixes.get m) := by cases s; rfl
@[simp] theorem State.mapMixes_history (s : State) (f : Fin 4 → Mix → Mix) : (s.mapMixes f).history = s.history := by cases s; rfl
@[simp] theorem State.mapMixes_link (s : State) (f : Fin 4 → Mix → Mix) : (s.mapMixes f).link = s.link := by cases s; rfl
@[simp] theorem State.mapMixes_events (s : State) (f : Fin 4 → Mix → Mix) : (s.mapMixes f).events = s.events := by cases s; rfl
@[simp] theorem State.mapMixes_overflow (s : State) (f : Fin 4 → Mix → Mix) : (s.mapMixes f).overflow = s.overflow := by cases s; rfl
@[simp] theorem State.mapMixes_capture (s : State) (f : Fin 4 → Mix → Mix) : (s.mapMixes f).capture = s.capture := by cases s; rfl
@[simp] theorem State.mapMixes_output (s : State) (f : Fin 4 → Mix → Mix) : (s.mapMixes f).output = s.output := by cases s; rfl
@[simp] theorem State.mapMixes_position (s : State) (f : Fin 4 → Mix → Mix) : (s.mapMixes f).position = s.position := by cases s; rfl
@[simp] theorem State.mapMixes_adout (s : State) (f : Fin 4 → Mix → Mix) : (s.mapMixes f).adout = s.adout := by cases s; rfl
@[simp] theorem State.mapMixes_freeCount (s : State) (f : Fin 4 → Mix → Mix) : (s.mapMixes f).freeCount = s.freeCount := by cases s; rfl

@[simp] theorem State.withStation_pending (s : State) (st : Station) : (s.withStation st).pending = s.pending := rfl
@[simp] theorem State.withStation_monitor (s : State) (st : Station) : (s.withStation st).monitor = s.monitor := rfl
@[simp] theorem State.withStation_stationNumber (s : State) (st : Station) : (s.withStation st).stationNumber = s.stationNumber := rfl
@[simp] theorem State.withStation_sequence (s : State) (st : Station) : (s.withStation st).sequence = s.sequence := rfl
@[simp] theorem State.withStation_station (s : State) (st : Station) : (s.withStation st).station = st := rfl
@[simp] theorem State.withStation_echoMismatch (s : State) (st : Station) : (s.withStation st).echoMismatch = s.echoMismatch := rfl
@[simp] theorem State.withStation_resetCause (s : State) (st : Station) : (s.withStation st).resetCause = s.resetCause := rfl
@[simp] theorem State.withStation_resets (s : State) (st : Station) : (s.withStation st).resets = s.resets := rfl
@[simp] theorem State.withStation_lanes (s : State) (st : Station) : (s.withStation st).lanes = s.lanes := rfl
@[simp] theorem State.withStation_sent (s : State) (st : Station) : (s.withStation st).sent = s.sent := rfl
@[simp] theorem State.withStation_lout (s : State) (st : Station) : (s.withStation st).lout = s.lout := rfl
@[simp] theorem State.withStation_directory (s : State) (st : Station) : (s.withStation st).directory = s.directory := rfl
@[simp] theorem State.withStation_ports (s : State) (st : Station) : (s.withStation st).ports = s.ports := rfl
@[simp] theorem State.withStation_levelA (s : State) (st : Station) : (s.withStation st).levelA = s.levelA := rfl
@[simp] theorem State.withStation_levelB (s : State) (st : Station) : (s.withStation st).levelB = s.levelB := rfl
@[simp] theorem State.withStation_mixes (s : State) (st : Station) : (s.withStation st).mixes = s.mixes := rfl
@[simp] theorem State.withStation_history (s : State) (st : Station) : (s.withStation st).history = s.history := rfl
@[simp] theorem State.withStation_link (s : State) (st : Station) : (s.withStation st).link = s.link := rfl
@[simp] theorem State.withStation_events (s : State) (st : Station) : (s.withStation st).events = s.events := rfl
@[simp] theorem State.withStation_overflow (s : State) (st : Station) : (s.withStation st).overflow = s.overflow := rfl
@[simp] theorem State.withStation_capture (s : State) (st : Station) : (s.withStation st).capture = s.capture := rfl
@[simp] theorem State.withStation_output (s : State) (st : Station) : (s.withStation st).output = s.output := rfl
@[simp] theorem State.withStation_position (s : State) (st : Station) : (s.withStation st).position = s.position := rfl
@[simp] theorem State.withStation_adout (s : State) (st : Station) : (s.withStation st).adout = s.adout := rfl
@[simp] theorem State.withStation_freeCount (s : State) (st : Station) : (s.withStation st).freeCount = s.freeCount := rfl

@[simp] theorem State.updLink_pending (s : State) (f : Link → Link) : (s.updLink f).pending = s.pending := rfl
@[simp] theorem State.updLink_monitor (s : State) (f : Link → Link) : (s.updLink f).monitor = s.monitor := rfl
@[simp] theorem State.updLink_stationNumber (s : State) (f : Link → Link) : (s.updLink f).stationNumber = s.stationNumber := rfl
@[simp] theorem State.updLink_sequence (s : State) (f : Link → Link) : (s.updLink f).sequence = s.sequence := rfl
@[simp] theorem State.updLink_station (s : State) (f : Link → Link) : (s.updLink f).station = s.station := rfl
@[simp] theorem State.updLink_echoMismatch (s : State) (f : Link → Link) : (s.updLink f).echoMismatch = s.echoMismatch := rfl
@[simp] theorem State.updLink_resetCause (s : State) (f : Link → Link) : (s.updLink f).resetCause = s.resetCause := rfl
@[simp] theorem State.updLink_resets (s : State) (f : Link → Link) : (s.updLink f).resets = s.resets := rfl
@[simp] theorem State.updLink_lanes (s : State) (f : Link → Link) : (s.updLink f).lanes = s.lanes := rfl
@[simp] theorem State.updLink_sent (s : State) (f : Link → Link) : (s.updLink f).sent = s.sent := rfl
@[simp] theorem State.updLink_lout (s : State) (f : Link → Link) : (s.updLink f).lout = s.lout := rfl
@[simp] theorem State.updLink_directory (s : State) (f : Link → Link) : (s.updLink f).directory = s.directory := rfl
@[simp] theorem State.updLink_ports (s : State) (f : Link → Link) : (s.updLink f).ports = s.ports := rfl
@[simp] theorem State.updLink_levelA (s : State) (f : Link → Link) : (s.updLink f).levelA = s.levelA := rfl
@[simp] theorem State.updLink_levelB (s : State) (f : Link → Link) : (s.updLink f).levelB = s.levelB := rfl
@[simp] theorem State.updLink_mixes (s : State) (f : Link → Link) : (s.updLink f).mixes = s.mixes := rfl
@[simp] theorem State.updLink_history (s : State) (f : Link → Link) : (s.updLink f).history = s.history := rfl
@[simp] theorem State.updLink_link (s : State) (f : Link → Link) : (s.updLink f).link = f s.link := rfl
@[simp] theorem State.updLink_events (s : State) (f : Link → Link) : (s.updLink f).events = s.events := rfl
@[simp] theorem State.updLink_overflow (s : State) (f : Link → Link) : (s.updLink f).overflow = s.overflow := rfl
@[simp] theorem State.updLink_capture (s : State) (f : Link → Link) : (s.updLink f).capture = s.capture := rfl
@[simp] theorem State.updLink_output (s : State) (f : Link → Link) : (s.updLink f).output = s.output := rfl
@[simp] theorem State.updLink_position (s : State) (f : Link → Link) : (s.updLink f).position = s.position := rfl
@[simp] theorem State.updLink_adout (s : State) (f : Link → Link) : (s.updLink f).adout = s.adout := rfl
@[simp] theorem State.updLink_freeCount (s : State) (f : Link → Link) : (s.updLink f).freeCount = s.freeCount := rfl

/-! ## The event queue (R168 to R170) -/

/-- Raising events writes the queue and the overflow mark, and nothing else. -/
theorem State.raiseList_shape (es : List Event) (s : State) :
    ∃ events overflow, es.foldl State.raise s = { s with events := events, overflow := overflow } := by
  induction es generalizing s with
  | nil => exact ⟨s.events, s.overflow, rfl⟩
  | cons e es ih =>
    obtain ⟨events, overflow, h⟩ := ih (s.raise e)
    refine ⟨events, overflow, ?_⟩
    rw [List.foldl_cons, h]
    unfold State.raise
    split <;> rfl

/-- Raising the events of one moment writes the queue, the overflow mark and the free-value counter alone. -/
theorem State.raiseAll_shape (s : State) (cs : List (List Event)) :
    ∃ events overflow,
      s.raiseAll cs = { s with events := events, overflow := overflow, freeCount := s.freeCount + 1 } := by
  obtain ⟨events, overflow, h⟩ := State.raiseList_shape (s.order cs) s
  exact ⟨events, overflow, by simp only [State.raiseAll, h]⟩

@[simp] theorem State.raiseAll_pending (s : State) (cs : List (List Event)) : (s.raiseAll cs).pending = s.pending := by
  obtain ⟨_, _, h⟩ := s.raiseAll_shape cs; exact (congrArg State.pending h).trans rfl
@[simp] theorem State.raiseAll_monitor (s : State) (cs : List (List Event)) : (s.raiseAll cs).monitor = s.monitor := by
  obtain ⟨_, _, h⟩ := s.raiseAll_shape cs; exact (congrArg State.monitor h).trans rfl
@[simp] theorem State.raiseAll_stationNumber (s : State) (cs : List (List Event)) : (s.raiseAll cs).stationNumber = s.stationNumber := by
  obtain ⟨_, _, h⟩ := s.raiseAll_shape cs; exact (congrArg State.stationNumber h).trans rfl
@[simp] theorem State.raiseAll_sequence (s : State) (cs : List (List Event)) : (s.raiseAll cs).sequence = s.sequence := by
  obtain ⟨_, _, h⟩ := s.raiseAll_shape cs; exact (congrArg State.sequence h).trans rfl
@[simp] theorem State.raiseAll_station (s : State) (cs : List (List Event)) : (s.raiseAll cs).station = s.station := by
  obtain ⟨_, _, h⟩ := s.raiseAll_shape cs; exact (congrArg State.station h).trans rfl
@[simp] theorem State.raiseAll_echoMismatch (s : State) (cs : List (List Event)) : (s.raiseAll cs).echoMismatch = s.echoMismatch := by
  obtain ⟨_, _, h⟩ := s.raiseAll_shape cs; exact (congrArg State.echoMismatch h).trans rfl
@[simp] theorem State.raiseAll_resetCause (s : State) (cs : List (List Event)) : (s.raiseAll cs).resetCause = s.resetCause := by
  obtain ⟨_, _, h⟩ := s.raiseAll_shape cs; exact (congrArg State.resetCause h).trans rfl
@[simp] theorem State.raiseAll_resets (s : State) (cs : List (List Event)) : (s.raiseAll cs).resets = s.resets := by
  obtain ⟨_, _, h⟩ := s.raiseAll_shape cs; exact (congrArg State.resets h).trans rfl
@[simp] theorem State.raiseAll_lanes (s : State) (cs : List (List Event)) : (s.raiseAll cs).lanes = s.lanes := by
  obtain ⟨_, _, h⟩ := s.raiseAll_shape cs; exact (congrArg State.lanes h).trans rfl
@[simp] theorem State.raiseAll_sent (s : State) (cs : List (List Event)) : (s.raiseAll cs).sent = s.sent := by
  obtain ⟨_, _, h⟩ := s.raiseAll_shape cs; exact (congrArg State.sent h).trans rfl
@[simp] theorem State.raiseAll_lout (s : State) (cs : List (List Event)) : (s.raiseAll cs).lout = s.lout := by
  obtain ⟨_, _, h⟩ := s.raiseAll_shape cs; exact (congrArg State.lout h).trans rfl
@[simp] theorem State.raiseAll_directory (s : State) (cs : List (List Event)) : (s.raiseAll cs).directory = s.directory := by
  obtain ⟨_, _, h⟩ := s.raiseAll_shape cs; exact (congrArg State.directory h).trans rfl
@[simp] theorem State.raiseAll_ports (s : State) (cs : List (List Event)) : (s.raiseAll cs).ports = s.ports := by
  obtain ⟨_, _, h⟩ := s.raiseAll_shape cs; exact (congrArg State.ports h).trans rfl
@[simp] theorem State.raiseAll_levelA (s : State) (cs : List (List Event)) : (s.raiseAll cs).levelA = s.levelA := by
  obtain ⟨_, _, h⟩ := s.raiseAll_shape cs; exact (congrArg State.levelA h).trans rfl
@[simp] theorem State.raiseAll_levelB (s : State) (cs : List (List Event)) : (s.raiseAll cs).levelB = s.levelB := by
  obtain ⟨_, _, h⟩ := s.raiseAll_shape cs; exact (congrArg State.levelB h).trans rfl
@[simp] theorem State.raiseAll_mixes (s : State) (cs : List (List Event)) : (s.raiseAll cs).mixes = s.mixes := by
  obtain ⟨_, _, h⟩ := s.raiseAll_shape cs; exact (congrArg State.mixes h).trans rfl
@[simp] theorem State.raiseAll_history (s : State) (cs : List (List Event)) : (s.raiseAll cs).history = s.history := by
  obtain ⟨_, _, h⟩ := s.raiseAll_shape cs; exact (congrArg State.history h).trans rfl
@[simp] theorem State.raiseAll_link (s : State) (cs : List (List Event)) : (s.raiseAll cs).link = s.link := by
  obtain ⟨_, _, h⟩ := s.raiseAll_shape cs; exact (congrArg State.link h).trans rfl
@[simp] theorem State.raiseAll_capture (s : State) (cs : List (List Event)) : (s.raiseAll cs).capture = s.capture := by
  obtain ⟨_, _, h⟩ := s.raiseAll_shape cs; exact (congrArg State.capture h).trans rfl
@[simp] theorem State.raiseAll_output (s : State) (cs : List (List Event)) : (s.raiseAll cs).output = s.output := by
  obtain ⟨_, _, h⟩ := s.raiseAll_shape cs; exact (congrArg State.output h).trans rfl
@[simp] theorem State.raiseAll_position (s : State) (cs : List (List Event)) : (s.raiseAll cs).position = s.position := by
  obtain ⟨_, _, h⟩ := s.raiseAll_shape cs; exact (congrArg State.position h).trans rfl
@[simp] theorem State.raiseAll_adout (s : State) (cs : List (List Event)) : (s.raiseAll cs).adout = s.adout := by
  obtain ⟨_, _, h⟩ := s.raiseAll_shape cs; exact (congrArg State.adout h).trans rfl
@[simp] theorem State.raiseAll_freeCount (s : State) (cs : List (List Event)) :
    (s.raiseAll cs).freeCount = s.freeCount + 1 := by
  obtain ⟨_, _, h⟩ := s.raiseAll_shape cs; exact (congrArg State.freeCount h).trans rfl
@[simp] theorem State.raiseAll_events (s : State) (cs : List (List Event)) :
    (s.raiseAll cs).events = ((s.order cs).foldl State.raise s).events := rfl
@[simp] theorem State.raiseAll_overflow (s : State) (cs : List (List Event)) :
    (s.raiseAll cs).overflow = ((s.order cs).foldl State.raise s).overflow := rfl

end Machine

end Sys2Proof
end

