-- ==== Sys2Proof/Laws/Events.lean ====
section
/-! SUPPORT. Raising the events of one moment (R168 to R170): every event is raised once, in an order that keeps the
order of each chain, and is queued or counted in the overflow mark. -/

namespace Sys2Proof.Machine

/-- The head taken off some chains is one of their events, and the rest of the events stay. -/
theorem takeHead_perm (cs : List (List Event)) (k : Nat) (e : Event) (rest : List (List Event))
    (h : takeHead cs k = some (e, rest)) : cs.flatten.Perm (e :: rest.flatten) := by
  induction cs generalizing k rest with
  | nil => simp [takeHead] at h
  | cons c cs ih =>
    match c, k, h with
    | [], k, h =>
      simp only [takeHead, Option.map_eq_some_iff, Prod.mk.injEq] at h
      obtain ⟨⟨e', rest'⟩, h1, rfl, rfl⟩ := h
      simpa using ih k rest' h1
    | e' :: chain, 0, h =>
      simp only [takeHead, Option.some.injEq, Prod.mk.injEq] at h
      obtain ⟨rfl, rfl⟩ := h
      simp
    | e' :: chain, k + 1, h =>
      simp only [takeHead, Option.map_eq_some_iff, Prod.mk.injEq] at h
      obtain ⟨⟨e'', rest'⟩, h1, rfl, rfl⟩ := h
      have := ih k rest' h1
      simp only [List.flatten_cons]
      exact (List.Perm.append_left _ this).trans List.perm_middle

/-- Among chains none of which is empty, a head can be taken at every place. -/
theorem takeHead_isSome (cs : List (List Event)) (k : Nat) (hne : ∀ c ∈ cs, c ≠ []) (hk : k < cs.length) :
    ∃ e rest, takeHead cs k = some (e, rest) := by
  induction cs generalizing k with
  | nil => simp at hk
  | cons c cs ih =>
    match c, k with
    | [], _ => exact absurd rfl (hne [] (by simp))
    | e :: chain, 0 => exact ⟨e, chain :: cs, rfl⟩
    | e :: chain, k + 1 =>
      obtain ⟨e', rest, h⟩ := ih k (fun c hc => hne c (by simp [hc])) (by simpa using hk)
      exact ⟨e', (e :: chain) :: rest, by simp [takeHead, h]⟩

theorem flatten_filter_nonempty (cs : List (List Event)) :
    (cs.filter fun c => !c.isEmpty).flatten = cs.flatten := by
  induction cs with
  | nil => rfl
  | cons c cs ih =>
    cases c with
    | nil => simpa using ih
    | cons e c => simpa using ih

/-- The order raises every event once (R170). -/
theorem interleave_perm (pick : Nat → Nat) (fuel place : Nat) (cs : List (List Event))
    (hf : cs.flatten.length ≤ fuel) : (interleave pick fuel place cs).Perm cs.flatten := by
  induction fuel generalizing place cs with
  | zero =>
    have : cs.flatten = [] := List.length_eq_zero_iff.mp (by omega)
    rw [this]
    exact List.Perm.refl _
  | succ fuel ih =>
    rw [interleave]
    rw [← flatten_filter_nonempty cs] at hf ⊢
    have hne : ∀ c ∈ cs.filter (fun c => !c.isEmpty), c ≠ [] := by
      intro c hc
      simpa using (List.mem_filter.mp hc).2
    split
    · next h => simp [h]
    · next chain h => simp [h]
    · next h0 h1 =>
      generalize cs.filter (fun c => !c.isEmpty) = several at *
      have hlen : 0 < several.length := by
        cases several with
        | nil => exact absurd rfl h0
        | cons => simp
      obtain ⟨e, rest, ht⟩ := takeHead_isSome several (pick place % several.length) hne (Nat.mod_lt _ hlen)
      rw [ht]
      have hp := takeHead_perm several _ e rest ht
      have hl : rest.flatten.length ≤ fuel := by
        have := hp.length_eq
        simp only [List.length_cons] at this
        omega
      exact (List.Perm.cons e (ih (place + 1) rest hl)).trans hp.symm

/-- Taking a head off leaves every chain as it was, but for the one whose head it is. -/
theorem takeHead_mem (cs : List (List Event)) (k : Nat) (e : Event) (rest : List (List Event))
    (h : takeHead cs k = some (e, rest)) (c : List Event) (hc : c ∈ cs) :
    c ∈ rest ∨ ∃ tail, c = e :: tail ∧ tail ∈ rest := by
  induction cs generalizing k rest with
  | nil => simp at hc
  | cons d cs ih =>
    match d, k, h, List.mem_cons.mp hc with
    | [], k, h, hc =>
      simp only [takeHead, Option.map_eq_some_iff, Prod.mk.injEq] at h
      obtain ⟨⟨e', rest'⟩, h1, rfl, rfl⟩ := h
      rcases hc with rfl | hc
      · exact .inl (by simp)
      · rcases ih k rest' h1 hc with h2 | ⟨tail, rfl, h2⟩
        · exact .inl (List.mem_cons_of_mem _ h2)
        · exact .inr ⟨tail, rfl, List.mem_cons_of_mem _ h2⟩
    | e' :: chain, 0, h, hc =>
      simp only [takeHead, Option.some.injEq, Prod.mk.injEq] at h
      obtain ⟨rfl, rfl⟩ := h
      rcases hc with rfl | hc
      · exact .inr ⟨chain, rfl, by simp⟩
      · exact .inl (List.mem_cons_of_mem _ hc)
    | e' :: chain, k + 1, h, hc =>
      simp only [takeHead, Option.map_eq_some_iff, Prod.mk.injEq] at h
      obtain ⟨⟨e'', rest'⟩, h1, rfl, rfl⟩ := h
      rcases hc with rfl | hc
      · exact .inl (by simp)
      · rcases ih k rest' h1 hc with h2 | ⟨tail, rfl, h2⟩
        · exact .inl (List.mem_cons_of_mem _ h2)
        · exact .inr ⟨tail, rfl, List.mem_cons_of_mem _ h2⟩

/-- The order keeps each chain's own order (R170). -/
theorem interleave_sublist (pick : Nat → Nat) (fuel place : Nat) (cs : List (List Event))
    (hf : cs.flatten.length ≤ fuel) (c : List Event) (hc : c ∈ cs) : c.Sublist (interleave pick fuel place cs) := by
  induction fuel generalizing place cs c with
  | zero =>
    have hnil : cs.flatten = [] := List.length_eq_zero_iff.mp (by omega)
    have : c = [] := List.flatten_eq_nil_iff.mp hnil c hc
    simp [this]
  | succ fuel ih =>
    by_cases hn : c = []
    · simp [hn]
    rw [interleave]
    rw [← flatten_filter_nonempty cs] at hf
    have hcs : c ∈ cs.filter (fun c => !c.isEmpty) := List.mem_filter.mpr ⟨hc, by simpa using hn⟩
    have hne : ∀ d ∈ cs.filter (fun c => !c.isEmpty), d ≠ [] := by
      intro d hd
      simpa using (List.mem_filter.mp hd).2
    split
    · next h => rw [h] at hcs; simp at hcs
    · next chain h => rw [h] at hcs; simp at hcs; simp [hcs]
    · next h0 h1 =>
      generalize cs.filter (fun c => !c.isEmpty) = several at *
      have hlen : 0 < several.length := List.length_pos_of_mem hcs
      obtain ⟨e, rest, ht⟩ := takeHead_isSome several (pick place % several.length) hne (Nat.mod_lt _ hlen)
      rw [ht]
      have hl : rest.flatten.length ≤ fuel := by
        have := (takeHead_perm several _ e rest ht).length_eq
        simp only [List.length_cons] at this
        omega
      rcases takeHead_mem several _ e rest ht c hcs with h | ⟨tail, rfl, h⟩
      · exact (ih (place + 1) rest hl c h).cons e
      · exact (ih (place + 1) rest hl tail h).cons_cons e

/-- Each chain of the moment is raised in its own order (R170). -/
theorem State.order_sublist (s : State) (cs : List (List Event)) (c : List Event) (hc : c ∈ cs) :
    c.Sublist (s.order cs) :=
  interleave_sublist _ _ _ cs (by simp [List.length_flatten]) c hc

/-- Every event of the moment is raised once (R170). -/
theorem State.order_perm (s : State) (cs : List (List Event)) : (s.order cs).Perm cs.flatten :=
  interleave_perm _ _ _ cs (by simp [List.length_flatten])

/-- Raising events adds records at the tail and takes none away; one that finds the queue full sets the mark. -/
theorem State.raiseList_events (es : List Event) (s : State) :
    ∃ added, (es.foldl State.raise s).events = s.events ++ added
      ∧ (s.overflow = true → (es.foldl State.raise s).overflow = true)
      ∧ ∀ e ∈ es, { event := e, sequence := s.sequence } ∈ added
          ∨ ((es.foldl State.raise s).overflow = true ∧ 32 ≤ (es.foldl State.raise s).events.length) := by
  induction es generalizing s with
  | nil => exact ⟨[], by simp⟩
  | cons e es ih =>
    obtain ⟨added, h1, h2, h3⟩ := ih (s.raise e)
    by_cases hq : s.events.length < 32
    · have hr : s.raise e = { s with events := s.events ++ [{ event := e, sequence := s.sequence }] } := by
        simp [State.raise, hq]
      refine ⟨{ event := e, sequence := s.sequence } :: added, ?_, ?_, ?_⟩
      · rw [List.foldl_cons, h1, hr]; simp
      · intro ho; rw [List.foldl_cons]; exact h2 (by rw [hr]; exact ho)
      · intro e' he'
        rcases List.mem_cons.mp he' with rfl | he'
        · exact .inl (by simp)
        · rcases h3 e' he' with h | h
          · rw [hr] at h; exact .inl (by simp only [List.mem_cons]; exact .inr h)
          · exact .inr h
    · have hr : s.raise e = { s with overflow := true } := by simp [State.raise, hq]
      have hov : ((e :: es).foldl State.raise s).overflow = true := by
        rw [List.foldl_cons]; exact h2 (by rw [hr])
      have hev : ((e :: es).foldl State.raise s).events = s.events ++ added := by
        rw [List.foldl_cons, h1, hr]
      refine ⟨added, hev, fun _ => hov, ?_⟩
      intro e' _
      refine .inr ⟨hov, ?_⟩
      rw [hev]; simp; omega

/-- Raising events leaves the sequence counter as it is. -/
theorem State.raiseList_sequence (es : List Event) (s : State) : (es.foldl State.raise s).sequence = s.sequence := by
  obtain ⟨_, _, h⟩ := State.raiseList_shape es s
  rw [h]

/-- Raising one event after another queues them in that order while there is room, and sets the mark when there is none
for some (R168, R169). -/
theorem State.raiseList_queues (es : List Event) (s : State) : s.queues (es.foldl State.raise s) es := by
  induction es generalizing s with
  | nil => simp [State.queues]
  | cons e es ih =>
    obtain ⟨h1, h2⟩ := ih (s.raise e)
    simp only [State.queues, List.foldl_cons, h1, h2, State.raiseList_sequence]
    by_cases hq : s.events.length < 32
    · obtain ⟨n, hn⟩ : ∃ n, 32 - s.events.length = n + 1 := ⟨31 - s.events.length, by omega⟩
      have hn' : 32 - (s.events.length + 1) = n := by omega
      simp [State.raise, hq, hn, hn']
    · have hn : 32 - s.events.length = 0 := by omega
      simp [State.raise, hq, hn]

/-- The events of a moment are queued in the moment's order (R168 to R170). -/
theorem State.raiseAll_queues (s : State) (cs : List (List Event)) : s.queues (s.raiseAll cs) (s.order cs) :=
  State.raiseList_queues (s.order cs) s

/-- An event of the moment has been told (R168, R169). -/
theorem State.raiseAll_told (s : State) (cs : List (List Event)) (e : Event) (h : e ∈ cs.flatten) :
    (s.raiseAll cs).told e := by
  have hm : e ∈ s.order cs := (s.order_perm cs).mem_iff.mpr h
  obtain ⟨added, h1, _, h3⟩ := State.raiseList_events (s.order cs) s
  unfold State.told
  simp only [State.raiseAll_sequence, State.raiseAll_events, State.raiseAll_overflow]
  rcases h3 e hm with h | h
  · exact .inl (by rw [h1]; exact List.mem_append_right _ h)
  · exact .inr h

end Sys2Proof.Machine
end

