-- ==== Sys2Proof/Laws/Link.lean ====
section
/-! SUPPORT. The control link: a whole request clocked into an empty REQUEST is accepted at its last byte. -/

namespace Sys2Proof.Machine

/-- The state in which `held` has been shifted into an empty REQUEST. -/
def State.holding (s : State) (held : List Byte) : State :=
  match held with
  | [] => s
  | _ :: _ => (s.received held.length).updLink fun l => { l with state := .request held }

theorem State.received_eq (s : State) (n : Nat) :
    s.received n =
      { s with
        freeCount := s.freeCount + n
        link := { s.link with cdout := .driven (some (Config.requestCdout (s.freeCount + n - 1))) } } := rfl

@[simp] theorem State.received_resets (s : State) (n : Nat) : (s.received n).resets = s.resets := rfl
@[simp] theorem State.received_inReset (s : State) (n : Nat) : (s.received n).inReset = s.inReset := rfl
@[simp] theorem State.updLink_inReset (s : State) (f : Link → Link) : (s.updLink f).inReset = s.inReset := rfl
@[simp] theorem State.shiftIn_inReset (s : State) : s.shiftIn.inReset = s.inReset := rfl

theorem State.holding_inReset (s : State) (held : List Byte) : (s.holding held).inReset = s.inReset := by
  cases held <;> rfl

theorem State.holding_state (s : State) (held : List Byte) (h : s.link.state = .request []) :
    (s.holding held).link.state = .request held := by
  cases held
  · exact h
  · rfl

/-- A byte shifted in on top of the bytes held. -/
theorem State.shiftIn_holding (s : State) (held : List Byte) (b : Byte) :
    ((s.holding held).shiftIn.updLink fun l => { l with state := .request (held ++ [b]) }) =
      s.holding (held ++ [b]) := by
  cases held with
  | nil => rfl
  | cons a rest =>
    simp only [State.holding, State.shiftIn, State.updLink, State.received, List.cons_append, List.length_cons,
      List.length_append, List.length_nil]
    congr 1

/-- The byte that completes a request leaves the request taken, with all its bytes shifted in. -/
theorem State.shiftIn_taken (s : State) (held : List Byte) (h : s.link.state = .request []) :
    ((s.holding held).shiftIn.updLink fun l => { l with state := .request [] }) = s.received (held.length + 1) := by
  cases held with
  | nil =>
    simp only [State.holding, State.shiftIn, State.updLink, State.received, List.length_nil]
    congr 1
    rw [← h]
    rfl
  | cons a rest =>
    simp only [State.holding, State.shiftIn, State.updLink, State.received]
    congr 1
    rw [← h]
    rfl

/-- A byte clocked on top of an incomplete request. -/
theorem State.clockByte_holding (s : State) (held : List Byte) (b : Byte) (hs : s.ready)
    (hc : messageComplete (held ++ [b]) = false) : (s.holding held).clockByte b = s.holding (held ++ [b]) := by
  obtain ⟨hr, hl⟩ := hs
  simp only [State.clockByte, State.holding_inReset, hr, State.holding_state s held hl, State.holdByte, hc,
    Bool.false_eq_true, if_false]
  exact State.shiftIn_holding s held b

/-- The byte that completes a request. -/
theorem State.clockByte_completes (s : State) (held : List Byte) (b : Byte) (hs : s.ready)
    (hc : messageComplete (held ++ [b]) = true) :
    (s.holding held).clockByte b =
      (s.received (held.length + 1)).accept ((held ++ [b]).getD 0 0) ((held ++ [b]).drop 2) := by
  obtain ⟨hr, hl⟩ := hs
  simp only [State.clockByte, State.holding_inReset, hr, State.holding_state s held hl, State.holdByte, hc,
    Bool.false_eq_true, if_false, if_true, State.shiftIn_taken s held hl]

/-- Bytes clocked while the request stays incomplete. -/
theorem State.clockAll_holding (s : State) (bytes held : List Byte) (hs : s.ready)
    (hc : ∀ n, n < bytes.length → messageComplete (held ++ bytes.take (n + 1)) = false) :
    (s.holding held).clockAll bytes = s.holding (held ++ bytes) := by
  induction bytes generalizing held with
  | nil => simp [State.clockAll]
  | cons b rest ih =>
    have h0 := hc 0 (by simp)
    simp only [List.take_succ_cons, List.take_zero] at h0
    show ((s.holding held).clockByte b).clockAll rest = _
    rw [State.clockByte_holding s held b hs h0, ih (held ++ [b])]
    · simp
    · intro n hn
      have := hc (n + 1) (by simpa using hn)
      simpa using this

theorem messageBytes_prefix_incomplete (code : Byte) (args : List Byte) (hl : args.length ≤ 255) (n : Nat)
    (hn : n < (messageBytes code args).length) : messageComplete ((messageBytes code args).take n) = false := by
  match n, hn with
  | 0, _ => rfl
  | 1, _ => rfl
  | k + 2, hn =>
    simp only [messageBytes, List.length_cons] at hn
    simp only [messageBytes, List.take_succ_cons, messageComplete, BitVec.toNat_ofNat, List.length_take]
    simp only [decide_eq_false_iff_not]
    omega

theorem messageBytes_complete (code : Byte) (args : List Byte) :
    messageComplete (messageBytes code args) = true := by
  simp only [messageBytes, messageComplete, BitVec.toNat_ofNat, decide_eq_true_eq]
  omega

/-- A whole request clocked into an empty REQUEST is accepted at its last byte (R157). -/
theorem State.clockMessage_accept (s : State) (code : Byte) (args : List Byte) (hs : s.ready)
    (hl : args.length ≤ 255) :
    s.clockMessage code args = (s.received (args.length + 2)).accept code args := by
  have key : ∀ (init : List Byte) (last : Byte), messageBytes code args = init ++ [last] →
      s.clockMessage code args = (s.received (init.length + 1)).accept code args := by
    intro init last h
    have hp : ∀ n, n < init.length → messageComplete ([] ++ init.take (n + 1)) = false := by
      intro n hn
      have := messageBytes_prefix_incomplete code args hl (n + 1) (by rw [h]; simp; omega)
      rw [h, List.take_append_of_le_length (by omega)] at this
      simpa using this
    have hc : messageComplete (init ++ [last]) = true := by rw [← h]; exact messageBytes_complete code args
    have h1 := State.clockAll_holding s init [] hs hp
    show s.clockAll (messageBytes code args) = _
    rw [h]
    show (init ++ [last]).foldl State.clockByte s = _
    rw [List.foldl_append]
    have h2 : init.foldl State.clockByte s = s.holding init := by simpa [State.clockAll, State.holding] using h1
    rw [h2]
    show (s.holding init).clockByte last = _
    rw [State.clockByte_completes s init last hs hc, ← h]
    rfl
  rcases List.eq_nil_or_concat (messageBytes code args) with h | ⟨init, last, h⟩
  · simp [messageBytes] at h
  · rw [key init last (by simpa using h)]
    have : init.length + 1 = args.length + 2 := by
      have := congrArg List.length h
      simp [messageBytes] at this
      omega
    rw [this]

/-- The shape in which every statement about a request is made: what acceptance decides, fixed as the response. -/
theorem State.clockMessage_answered (s : State) (code : Byte) (args : List Byte) (hs : s.ready)
    (hl : args.length ≤ 255) (change : State → State) (result : ResultCode) (data : List Byte)
    (hd : decideRequest code args (s.received (args.length + 2)) =
      (change (s.received (args.length + 2)), { code := result, data := data })) :
    s.clockMessage code args = s.answered (args.length + 2) change result data := by
  rw [State.clockMessage_accept s code args hs hl, State.accept, hd]
  rfl

end Sys2Proof.Machine
end

