-- ==== Sys2Proof/Laws/Moves.lean ====
section
/-! SUPPORT. What a command can do, said once: its next state is reached by moves of a few kinds. An invariant that
every move keeps is kept by every command. -/

namespace Sys2Proof.Machine

/-- The moves of the part. -/
inductive Move : State → State → Prop
  | strobe (s : State) (inp : StrobeInput) : Move s (s.afterStrobe inp)
  | missed (s : State) (h : s.monitor.condition = .timed) : Move s s.missStrobe
  | runTimeout (s : State) : Move s { s with monitor := { s.monitor with reference := none, goodRun := 0 } }
  | follow (s : State) (lane : Fin 16) : Move s (s.updLane lane fun l => { l with receiving := true })
  | note (s : State) : Move s (s.withStation s.station.noteStart)
  | close (s : State) (lane : Fin 16) : Move s (s.updLane lane fun l => { l with receiving := false })
  | complete (s : State) (lane : Fin 16) (frame : Received) (untimed : Bool) :
      Move s (s.updLane lane fun l => l.complete frame untimed)
  | sample (s t : State) (adin : Vector (BitVec 32) 16) (h : execSampleFrame adin s = .next t) : Move s t
  | link (s : State) (l : Link) (h : s.link.cutCount ≤ 65535 → l.cutCount ≤ 65535) : Move s { s with link := l }
  | free (s : State) (n : Nat) : Move s { s with freeCount := n }
  | request (s : State) (code : Byte) (args : List Byte) : Move s (decideRequest code args s).1
  | hold (s : State) (cause : ResetCause) : Move s (s.holdReset cause)
  | release (s : State) (cause : ResetCause) (fin : ResetEnd) : Move s (s.releaseReset cause fin)

/-- Any number of moves. -/
inductive Moves : State → State → Prop
  | none (s : State) : Moves s s
  | more (s t u : State) (h : Moves s t) (m : Move t u) : Moves s u

theorem Moves.one {s t : State} (m : Move s t) : Moves s t := .more s s t (.none s) m

theorem Moves.trans {s t u : State} (h : Moves s t) (k : Moves t u) : Moves s u := by
  induction k with
  | none => exact h
  | more a b _ m ih => exact .more _ a b ih m

/-- An invariant that every move keeps is kept by any number of moves. -/
theorem Moves.keeps {s t : State} (inv : State → Prop) (hm : ∀ a b, Move a b → inv a → inv b) (h : Moves s t)
    (hs : inv s) : inv t := by
  induction h with
  | none => exact hs
  | more a b _ m ih => exact hm a b m ih

theorem Moves.updLink (s : State) (f : Link → Link) (h : s.link.cutCount ≤ 65535 → (f s.link).cutCount ≤ 65535) :
    Moves s (s.updLink f) := .one (.link s (f s.link) h)

theorem Moves.respond (s : State) (r : Response) : Moves s (s.respond r) :=
  .more _ _ _ (.one (.link s { s.link with
    state := .response (Config.responseFill s.freeCount % 4) (responseBytes r) } id)) (.free _ (s.freeCount + 1))

theorem Moves.accept (s : State) (code : Byte) (args : List Byte) : Moves s (s.accept code args) :=
  (Moves.one (.request s code args)).trans (Moves.respond _ _)

theorem Moves.shiftIn (s : State) : Moves s s.shiftIn :=
  .more _ _ _ (.one (.link s { s.link with cdout := .driven (some (Config.requestCdout s.freeCount)) } id))
    (.free _ (s.freeCount + 1))

theorem Moves.endResponse (s : State) : Moves s s.endResponse := by
  unfold State.endResponse
  dsimp only
  split
  · exact .more _ _ _ (Moves.updLink s _ id) (.hold _ _)
  · exact Moves.updLink s _ id

/-- A byte clocked is a number of moves. -/
theorem Moves.clockByte (s : State) (b : Byte) : Moves s (s.clockByte b) := by
  unfold State.clockByte
  split
  · exact .none s
  · split
    · exact .none s
    · exact .none s
    · next held _ =>
      unfold State.holdByte
      dsimp only
      split
      · exact ((Moves.shiftIn s).trans (Moves.updLink _ _ id)).trans (Moves.accept _ _ _)
      · exact (Moves.shiftIn s).trans (Moves.updLink _ _ id)
    · exact Moves.updLink s _ id
    · exact Moves.updLink s _ id
    · exact (Moves.updLink s _ id).trans (Moves.endResponse _)
    · exact Moves.endResponse s
    · exact Moves.updLink s _ id

theorem Moves.clockAll (s : State) (bytes : List Byte) : Moves s (s.clockAll bytes) := by
  unfold State.clockAll
  induction bytes generalizing s with
  | nil => exact .none s
  | cons b rest ih => exact (Moves.clockByte s b).trans (ih _)

theorem Moves.deselect (s : State) (clocked : List Byte) : Moves s (s.deselect clocked) := by
  unfold State.deselect
  refine (Moves.clockAll s clocked).trans ?_
  generalize s.clockAll clocked = t
  dsimp only
  split
  · exact Moves.updLink t _ id
  · unfold State.endSelection
    have hc : ∀ n : Nat, t.link.cutCount ≤ 65535 → addCount t.link.cutCount n ≤ 65535 := fun n _ => by
      unfold addCount; omega
    dsimp only
    split
    · exact .more _ _ _ (Moves.updLink t _ (hc _)) (.hold _ _)
    · exact Moves.updLink t _ (hc _)

theorem Moves.finishResponse (s : State) : Moves s s.finishResponse := by
  unfold State.finishResponse
  split
  · exact (Moves.updLink s _ id).trans (Moves.endResponse _)
  · exact .none s

theorem Moves.strobeWhen (s : State) (inp : StrobeInput) (due : State → State → Bool) :
    Moves s (s.strobeWhen inp due) := by
  unfold State.strobeWhen
  split
  · exact .one (.strobe s inp)
  · exact .none s

/-- What a command can do: its next state is reached by moves. -/
theorem exec_moves (c : Instr) (s t : State) (h : exec c s = .next t) : Moves s t := by
  cases c <;> simp only [exec] at h
  case blockStrobe inp => cases h; exact .one (.strobe s inp)
  case strobeMissing =>
    unfold execStrobeMissing at h
    split at h <;> cases h
    · next hc => exact .one (.missed s (by simpa using (Bool.and_eq_true_iff.mp hc).2))
    · exact .none s
  case strobeLoss =>
    unfold execStrobeLoss at h
    split at h <;> cases h
    · next hc => exact .one (.missed s (by simp at hc; exact hc.1.2))
    · exact .none s
  case goodRunTimeout =>
    unfold execGoodRunTimeout at h
    split at h <;> cases h
    · exact .one (.runTimeout s)
    · exact .none s
  case frameStart lane =>
    unfold execFrameStart at h
    dsimp only at h
    split at h
    · cases h; exact .none s
    · split at h <;> cases h
      · exact .more _ _ _ (.one (.follow s lane)) (.note (s.updLane lane fun l => { l with receiving := true }))
      · exact .one (.follow s lane)
  case frameComplete lane bytes ending =>
    unfold execFrameComplete at h
    split at h
    · cases h; exact .none s
    · split at h <;> cases h
      · exact .one (.close s lane)
      · exact .one (.complete s lane _ _)
  case powerOnReset =>
    unfold execPowerOnReset at h
    split at h <;> cases h
    · exact .none s
    · exact .one (.hold s _)
  case powerOnRelease fin =>
    unfold execPowerOnRelease at h
    split at h <;> cases h
    · exact .one (.release s _ _)
    · exact .none s
  case resetPinAssert =>
    unfold execResetPinAssert at h
    split at h <;> cases h
    · exact .none s
    · exact .one (.hold s _)
  case resetPinNegate fin =>
    unfold execResetPinNegate at h
    split at h <;> cases h
    · exact .one (.release s _ _)
    · exact .none s
  case commandResetBegin moment =>
    unfold execCommandResetBegin at h
    split at h
    · cases moment <;> cases h
      · exact Moves.finishResponse s
      · exact Moves.deselect s _
    · cases h; exact .none s
  case commandResetExpiry fin =>
    unfold execCommandResetExpiry at h
    split at h <;> cases h
    · exact .one (.release s _ _)
    · exact .none s
  case select clocked =>
    unfold execSelect at h
    split at h
    · cases h; exact .none s
    · split at h <;> cases h
      · exact Moves.updLink s _ id
      · exact (Moves.updLink s _ id).trans (Moves.clockAll _ _)
  case deselect clocked =>
    unfold execDeselect at h
    split at h <;> cases h
    · exact Moves.deselect s _
    · exact .none s
  case sampleFrame adin => exact .one (.sample s t adin h)
  case responseEnd =>
    unfold execResponseEnd at h
    split at h <;> cases h
    · exact .none s
    · exact Moves.finishResponse s
  all_goals first
    | (cases h; exact Moves.strobeWhen s _ _)
    | (cases h; exact Moves.clockAll s _)

end Sys2Proof.Machine
end

