-- ==== Sys2Proof/Laws/PerInstr.lean ====
section
/-! SUPPORT. The statement that is made of each command apart: its request code. -/

namespace Sys2Proof.Laws.RequestCode

/-- A well-formed request's arguments fit the length byte of its message, and its code names no request exactly when
it is the unknown request (R157, R179). -/
def Statement (i : Instr) : Prop :=
  ∀ code args, requestOf i = some (code, args) → WellFormed i = true →
    args.length ≤ 255 ∧ (unknownCode code = true ↔ ∃ c a, i = .unknownRequest c a)

/-- A command that is no request has no message. -/
theorem of_none (i : Instr) (h : requestOf i = none) : Statement i := by
  intro code args hr
  rw [h] at hr
  cases hr

/-- A command whose code is fixed and names a request. -/
theorem of_code (i : Instr) (code : Byte) (args : List Byte) (h : requestOf i = some (code, args))
    (hc : unknownCode code = false) (hu : ∀ c a, i ≠ .unknownRequest c a) (hw : WellFormed i = true → args.length ≤ 255) :
    Statement i := by
  intro code' args' hr hwf
  rw [h] at hr
  cases hr
  exact ⟨hw hwf, by simp [hc, hu]⟩

theorem blockStrobe (inp : StrobeInput) : Statement (.blockStrobe inp) := of_none _ rfl
theorem strobeMissing : Statement .strobeMissing := of_none _ rfl
theorem strobeLoss : Statement .strobeLoss := of_none _ rfl
theorem goodRunTimeout : Statement .goodRunTimeout := of_none _ rfl
theorem strobeRunComplete (inp : StrobeInput) : Statement (.strobeRunComplete inp) := of_none _ rfl
theorem frameStart (lane : Fin 16) : Statement (.frameStart lane) := of_none _ rfl
theorem frameComplete (lane : Fin 16) (bytes : List Byte) (ending : FrameEnding) : Statement (.frameComplete lane bytes ending) := of_none _ rfl
theorem acquireComplete (inp : StrobeInput) (lane : Fin 16) : Statement (.acquireComplete inp lane) := of_none _ rfl
theorem missLimit (inp : StrobeInput) (lane : Fin 16) : Statement (.missLimit inp lane) := of_none _ rfl
theorem listenComplete (inp : StrobeInput) : Statement (.listenComplete inp) := of_none _ rfl
theorem echoMismatchLimit (inp : StrobeInput) : Statement (.echoMismatchLimit inp) := of_none _ rfl
theorem quietRunComplete (inp : StrobeInput) (port : Fin 8) : Statement (.quietRunComplete inp port) := of_none _ rfl
theorem withdrawalTimerExpiry (inp : StrobeInput) : Statement (.withdrawalTimerExpiry inp) := of_none _ rfl
theorem finalCountComplete (inp : StrobeInput) : Statement (.finalCountComplete inp) := of_none _ rfl
theorem laneTestComplete (inp : StrobeInput) : Statement (.laneTestComplete inp) := of_none _ rfl
theorem powerOnReset : Statement .powerOnReset := of_none _ rfl
theorem powerOnRelease (fin : ResetEnd) : Statement (.powerOnRelease fin) := of_none _ rfl
theorem resetPinAssert : Statement .resetPinAssert := of_none _ rfl
theorem resetPinNegate (fin : ResetEnd) : Statement (.resetPinNegate fin) := of_none _ rfl
theorem commandResetBegin (moment : ResetMoment) : Statement (.commandResetBegin moment) := of_none _ rfl
theorem commandResetExpiry (fin : ResetEnd) : Statement (.commandResetExpiry fin) := of_none _ rfl
theorem select (clocked : List Byte) : Statement (.select clocked) := of_none _ rfl
theorem deselect (clocked : List Byte) : Statement (.deselect clocked) := of_none _ rfl
theorem unknownRequest (code : Byte) (args : List Byte) : Statement (.unknownRequest code args) := by
  intro code' args' hr hwf
  cases hr
  simp only [WellFormed, argsFit, Bool.and_eq_true, decide_eq_true_eq] at hwf
  exact ⟨hwf.2, by simp [hwf.1]⟩
theorem status (args : List Byte) : Statement (.status args) :=
  of_code _ 1 args rfl (by decide) (by simp) (by simp [WellFormed, argsFit])
theorem stationReset (args : List Byte) : Statement (.stationReset args) :=
  of_code _ 2 args rfl (by decide) (by simp) (by simp [WellFormed, argsFit])
theorem clearCounts (args : List Byte) : Statement (.clearCounts args) :=
  of_code _ 3 args rfl (by decide) (by simp) (by simp [WellFormed, argsFit])
theorem laneStats (args : List Byte) : Statement (.laneStats args) :=
  of_code _ 4 args rfl (by decide) (by simp) (by simp [WellFormed, argsFit])
theorem readEvent (args : List Byte) : Statement (.readEvent args) :=
  of_code _ 5 args rfl (by decide) (by simp) (by simp [WellFormed, argsFit])
theorem withdrawNormal (args : List Byte) : Statement (.withdrawNormal args) :=
  of_code _ 6 args rfl (by decide) (by simp) (by simp [WellFormed, argsFit]; omega)
theorem withdrawForced (args : List Byte) : Statement (.withdrawForced args) :=
  of_code _ 6 args rfl (by decide) (by simp) (by simp only [WellFormed, beq_iff_eq]; rintro rfl; simp)
theorem rejoin (args : List Byte) : Statement (.rejoin args) :=
  of_code _ 7 args rfl (by decide) (by simp) (by simp [WellFormed, argsFit])
theorem laneTest (args : List Byte) : Statement (.laneTest args) :=
  of_code _ 8 args rfl (by decide) (by simp) (by simp [WellFormed, argsFit])
theorem directoryList (args : List Byte) : Statement (.directoryList args) :=
  of_code _ 9 args rfl (by decide) (by simp) (by simp [WellFormed, argsFit])
theorem directoryQuery (args : List Byte) : Statement (.directoryQuery args) :=
  of_code _ 10 args rfl (by decide) (by simp) (by simp [WellFormed, argsFit])
theorem setState (args : List Byte) : Statement (.setState args) :=
  of_code _ 11 args rfl (by decide) (by simp) (by simp [WellFormed, argsFit])
theorem portClear (args : List Byte) : Statement (.portClear args) :=
  of_code _ 12 args rfl (by decide) (by simp) (by simp [WellFormed, argsFit])
theorem groupRestore (args : List Byte) : Statement (.groupRestore args) :=
  of_code _ 13 args rfl (by decide) (by simp) (by simp [WellFormed, argsFit])
theorem setMonitor (args : List Byte) : Statement (.setMonitor args) :=
  of_code _ 14 args rfl (by decide) (by simp) (by simp [WellFormed, argsFit])
theorem portQuery (args : List Byte) : Statement (.portQuery args) :=
  of_code _ 15 args rfl (by decide) (by simp) (by simp [WellFormed, argsFit])
theorem setEntry (args : List Byte) : Statement (.setEntry args) :=
  of_code _ 16 args rfl (by decide) (by simp) (by simp [WellFormed, argsFit])
theorem removeEntry (args : List Byte) : Statement (.removeEntry args) :=
  of_code _ 17 args rfl (by decide) (by simp) (by simp [WellFormed, argsFit])
theorem setMinus (args : List Byte) : Statement (.setMinus args) :=
  of_code _ 18 args rfl (by decide) (by simp) (by simp [WellFormed, argsFit])
theorem setPad (args : List Byte) : Statement (.setPad args) :=
  of_code _ 19 args rfl (by decide) (by simp) (by simp [WellFormed, argsFit])
theorem setTalkback (args : List Byte) : Statement (.setTalkback args) :=
  of_code _ 20 args rfl (by decide) (by simp) (by simp [WellFormed, argsFit])
theorem talkbackOn (args : List Byte) : Statement (.talkbackOn args) :=
  of_code _ 21 args rfl (by decide) (by simp) (by simp [WellFormed, argsFit])
theorem talkbackOff (args : List Byte) : Statement (.talkbackOff args) :=
  of_code _ 22 args rfl (by decide) (by simp) (by simp [WellFormed, argsFit])
theorem setCadence (args : List Byte) : Statement (.setCadence args) :=
  of_code _ 23 args rfl (by decide) (by simp) (by simp [WellFormed, argsFit])
theorem setTerm (args : List Byte) : Statement (.setTerm args) :=
  of_code _ 24 args rfl (by decide) (by simp) (by simp [WellFormed, argsFit])
theorem removeTerm (args : List Byte) : Statement (.removeTerm args) :=
  of_code _ 25 args rfl (by decide) (by simp) (by simp [WellFormed, argsFit])
theorem clearMix (args : List Byte) : Statement (.clearMix args) :=
  of_code _ 26 args rfl (by decide) (by simp) (by simp [WellFormed, argsFit])
theorem mixOn (args : List Byte) : Statement (.mixOn args) :=
  of_code _ 27 args rfl (by decide) (by simp) (by simp [WellFormed, argsFit])
theorem mixOff (args : List Byte) : Statement (.mixOff args) :=
  of_code _ 28 args rfl (by decide) (by simp) (by simp [WellFormed, argsFit])
theorem mixQuery (args : List Byte) : Statement (.mixQuery args) :=
  of_code _ 29 args rfl (by decide) (by simp) (by simp [WellFormed, argsFit])
theorem sampleFrame (adin : Vector (BitVec 32) 16) : Statement (.sampleFrame adin) := of_none _ rfl
theorem responseEnd : Statement .responseEnd := of_none _ rfl

end Sys2Proof.Laws.RequestCode
end

