-- ==== Sys2Proof/Laws/Requests.lean ====
section
/-! SUPPORT. Requests: which decision each code calls, what their arguments name, and what shifting a request in
leaves alone. -/

namespace Sys2Proof.Machine

/-! ## The decision of each code (R157, R179) -/

theorem decideRequest_status (args : List Byte) (s : State) : decideRequest 1 args s = decideStatus args s := rfl
theorem decideRequest_stationReset (args : List Byte) (s : State) : decideRequest 2 args s = decideStationReset args s := rfl
theorem decideRequest_clearCounts (args : List Byte) (s : State) : decideRequest 3 args s = decideClearCounts args s := rfl
theorem decideRequest_laneStats (args : List Byte) (s : State) : decideRequest 4 args s = decideLaneStats args s := rfl
theorem decideRequest_readEvent (args : List Byte) (s : State) : decideRequest 5 args s = decideReadEvent args s := rfl
theorem decideRequest_withdrawForced (s : State) :
    decideRequest 6 [1] s = decideWithdrawForced [1] s := rfl
theorem decideRequest_withdrawNormal (args : List Byte) (s : State) (h : args ≠ [1]) :
    decideRequest 6 args s = decideWithdrawNormal args s := by
  have hc : commandOfMessage 6 args = .withdrawNormal args := if_neg h
  unfold decideRequest
  rw [hc]
theorem decideRequest_rejoin (args : List Byte) (s : State) : decideRequest 7 args s = decideRejoin args s := rfl
theorem decideRequest_laneTest (args : List Byte) (s : State) : decideRequest 8 args s = decideLaneTest args s := rfl
theorem decideRequest_directoryList (args : List Byte) (s : State) : decideRequest 9 args s = decideDirectoryList args s := rfl
theorem decideRequest_directoryQuery (args : List Byte) (s : State) : decideRequest 10 args s = decideDirectoryQuery args s := rfl
theorem decideRequest_setState (args : List Byte) (s : State) : decideRequest 11 args s = decideSetState args s := rfl
theorem decideRequest_portClear (args : List Byte) (s : State) : decideRequest 12 args s = decidePortClear args s := rfl
theorem decideRequest_groupRestore (args : List Byte) (s : State) : decideRequest 13 args s = decideGroupRestore args s := rfl
theorem decideRequest_setMonitor (args : List Byte) (s : State) : decideRequest 14 args s = decideSetMonitor args s := rfl
theorem decideRequest_portQuery (args : List Byte) (s : State) : decideRequest 15 args s = decidePortQuery args s := rfl
theorem decideRequest_setEntry (args : List Byte) (s : State) : decideRequest 16 args s = decideSetEntry args s := rfl
theorem decideRequest_removeEntry (args : List Byte) (s : State) : decideRequest 17 args s = decideRemoveEntry args s := rfl
theorem decideRequest_setMinus (args : List Byte) (s : State) : decideRequest 18 args s = decideSetMinus args s := rfl
theorem decideRequest_setPad (args : List Byte) (s : State) : decideRequest 19 args s = decideSetPad args s := rfl
theorem decideRequest_setTalkback (args : List Byte) (s : State) : decideRequest 20 args s = decideSetTalkback args s := rfl
theorem decideRequest_talkbackOn (args : List Byte) (s : State) : decideRequest 21 args s = decideTalkbackOn args s := rfl
theorem decideRequest_talkbackOff (args : List Byte) (s : State) : decideRequest 22 args s = decideTalkbackOff args s := rfl
theorem decideRequest_setCadence (args : List Byte) (s : State) : decideRequest 23 args s = decideSetCadence args s := rfl
theorem decideRequest_setTerm (args : List Byte) (s : State) : decideRequest 24 args s = decideSetTerm args s := rfl
theorem decideRequest_removeTerm (args : List Byte) (s : State) : decideRequest 25 args s = decideRemoveTerm args s := rfl
theorem decideRequest_clearMix (args : List Byte) (s : State) : decideRequest 26 args s = decideClearMix args s := rfl
theorem decideRequest_mixOn (args : List Byte) (s : State) : decideRequest 27 args s = decideMixOn args s := rfl
theorem decideRequest_mixOff (args : List Byte) (s : State) : decideRequest 28 args s = decideMixOff args s := rfl
theorem decideRequest_mixQuery (args : List Byte) (s : State) : decideRequest 29 args s = decideMixQuery args s := rfl

/-- A request put as a command: it is answered as its decision says (R157, R158). -/
theorem request_answered (s : State) (code : Byte) (args : List Byte) (n : Nat) (change : State → State)
    (result : ResultCode) (data : List Byte) (hs : s.ready) (hl : args.length ≤ 255) (hn : n = args.length + 2)
    (hd : decideRequest code args (s.received (args.length + 2)) =
      (change (s.received (args.length + 2)), { code := result, data := data })) :
    (.next (s.clockMessage code args) : Host.Outcome State Fault Refusal) = .next (s.answered n change result data) := by
  subst hn
  exact congrArg _ (s.clockMessage_answered code args hs hl change result data hd)

/-! ## Arguments (R179) -/

theorem portArg_of (b : Byte) (p : Fin 8) (h : b.toNat = p.val) : portArg b = some p := by simp [portArg, h]
theorem portArg_none (b : Byte) (h : 8 ≤ b.toNat) : portArg b = none := by simp [portArg]; omega
theorem mixArg_of (b : Byte) (m : Fin 4) (h : b.toNat = m.val) : mixArg b = some m := by simp [mixArg, h]
theorem mixArg_none (b : Byte) (h : 4 ≤ b.toNat) : mixArg b = none := by simp [mixArg]; omega
theorem laneArg_of (b : Byte) (l : Fin 16) (h : b.toNat = l.val) : laneArg b = some l := by simp [laneArg, h]
theorem laneArg_none (b : Byte) (h : 16 ≤ b.toNat) : laneArg b = none := by simp [laneArg]; omega
theorem targetArg_none (b : Byte) (h : 4 ≤ b.toNat) : targetArg b = none := by
  unfold targetArg; split <;> first | omega | rfl
theorem recipeArg_none (b : Byte) (h : 3 ≤ b.toNat) : recipeArg b = none := by
  unfold recipeArg; split <;> first | omega | rfl
theorem choiceArg_none (b : Byte) (h : 4 ≤ b.toNat) : choiceArg b = none := by
  unfold choiceArg; split <;> first | omega | rfl
theorem noticeArg_none (b : Byte) (h : 2 ≤ b.toNat) : noticeArg b = none := by
  unfold noticeArg; split <;> first | omega | rfl
theorem groupArg_none (b : Byte) (h : 2 ≤ b.toNat) : groupArg b = none := by
  unfold groupArg; split <;> first | omega | rfl
theorem sourceArg_none (b t : Byte) (h : 2 ≤ b.toNat) : sourceArg b t = none := by
  unfold sourceArg; split <;> first | omega | rfl

/-! ## What shifting a request in leaves alone -/

@[simp] theorem State.received_pending (s : State) (n : Nat) : (s.received n).pending = s.pending := rfl
@[simp] theorem State.received_monitor (s : State) (n : Nat) : (s.received n).monitor = s.monitor := rfl
@[simp] theorem State.received_stationNumber (s : State) (n : Nat) : (s.received n).stationNumber = s.stationNumber := rfl
@[simp] theorem State.received_sequence (s : State) (n : Nat) : (s.received n).sequence = s.sequence := rfl
@[simp] theorem State.received_station (s : State) (n : Nat) : (s.received n).station = s.station := rfl
@[simp] theorem State.received_echoMismatch (s : State) (n : Nat) : (s.received n).echoMismatch = s.echoMismatch := rfl
@[simp] theorem State.received_resetCause (s : State) (n : Nat) : (s.received n).resetCause = s.resetCause := rfl
@[simp] theorem State.received_lanes (s : State) (n : Nat) : (s.received n).lanes = s.lanes := rfl
@[simp] theorem State.received_sent (s : State) (n : Nat) : (s.received n).sent = s.sent := rfl
@[simp] theorem State.received_lout (s : State) (n : Nat) : (s.received n).lout = s.lout := rfl
@[simp] theorem State.received_directory (s : State) (n : Nat) : (s.received n).directory = s.directory := rfl
@[simp] theorem State.received_ports (s : State) (n : Nat) : (s.received n).ports = s.ports := rfl
@[simp] theorem State.received_levelA (s : State) (n : Nat) : (s.received n).levelA = s.levelA := rfl
@[simp] theorem State.received_levelB (s : State) (n : Nat) : (s.received n).levelB = s.levelB := rfl
@[simp] theorem State.received_mixes (s : State) (n : Nat) : (s.received n).mixes = s.mixes := rfl
@[simp] theorem State.received_history (s : State) (n : Nat) : (s.received n).history = s.history := rfl
@[simp] theorem State.received_events (s : State) (n : Nat) : (s.received n).events = s.events := rfl
@[simp] theorem State.received_overflow (s : State) (n : Nat) : (s.received n).overflow = s.overflow := rfl
@[simp] theorem State.received_capture (s : State) (n : Nat) : (s.received n).capture = s.capture := rfl
@[simp] theorem State.received_output (s : State) (n : Nat) : (s.received n).output = s.output := rfl
@[simp] theorem State.received_position (s : State) (n : Nat) : (s.received n).position = s.position := rfl
@[simp] theorem State.received_adout (s : State) (n : Nat) : (s.received n).adout = s.adout := rfl
@[simp] theorem State.received_stationName (s : State) (n : Nat) : (s.received n).stationName = s.stationName := rfl
@[simp] theorem State.received_active (s : State) (n : Nat) : (s.received n).active = s.active := rfl
@[simp] theorem State.received_entry (s : State) (n : Nat) (t : Tag) : (s.received n).entry t = s.entry t := rfl
@[simp] theorem State.received_portTag (s : State) (n : Nat) (p : Fin 8) : (s.received n).portTag p = s.portTag p := rfl
@[simp] theorem State.received_minusSet (s : State) (n : Nat) (p : Fin 8) :
    (s.received n).minusSet p = s.minusSet p := rfl
@[simp] theorem State.received_level (s : State) (n : Nat) (g : Group) : (s.received n).level g = s.level g := by
  cases g <;> rfl
@[simp] theorem State.received_outOfService (s : State) (n : Nat) (ports : List (Fin 8)) :
    (s.received n).outOfService ports = s.outOfService ports := rfl
@[simp] theorem statusData_received (s : State) (n : Nat) : statusData (s.received n) = statusData s := rfl
@[simp] theorem portData_received (s : State) (n : Nat) (p : Fin 8) : portData (s.received n) p = portData s p := rfl

end Sys2Proof.Machine
end

