-- ==== Sys2Proof/Laws/Strobe.lean ====
section
/-! SUPPORT. What each pass of a taken strobe leaves alone, field by field. -/

namespace Sys2Proof.Machine

@[simp] theorem Work.andThen_st (w : Work) (pass : State → Work) : (w.andThen pass).st = (pass w.st).st := rfl
@[simp] theorem Work.andThen_chains (w : Work) (pass : State → Work) :
    (w.andThen pass).chains = w.chains ++ (pass w.st).chains := rfl
@[simp] theorem Work.silent_st (s : State) : (Work.silent s).st = s := rfl
@[simp] theorem Work.silent_chains (s : State) : (Work.silent s).chains = [] := rfl

@[simp] theorem State.setLevel_pending (s : State) (g : Group) (level : Bool) : (s.setLevel g level).pending = s.pending := by
  cases g <;> rfl
@[simp] theorem State.setLevel_monitor (s : State) (g : Group) (level : Bool) : (s.setLevel g level).monitor = s.monitor := by
  cases g <;> rfl
@[simp] theorem State.setLevel_stationNumber (s : State) (g : Group) (level : Bool) : (s.setLevel g level).stationNumber = s.stationNumber := by
  cases g <;> rfl
@[simp] theorem State.setLevel_sequence (s : State) (g : Group) (level : Bool) : (s.setLevel g level).sequence = s.sequence := by
  cases g <;> rfl
@[simp] theorem State.setLevel_station (s : State) (g : Group) (level : Bool) : (s.setLevel g level).station = s.station := by
  cases g <;> rfl
@[simp] theorem State.setLevel_echoMismatch (s : State) (g : Group) (level : Bool) : (s.setLevel g level).echoMismatch = s.echoMismatch := by
  cases g <;> rfl
@[simp] theorem State.setLevel_resetCause (s : State) (g : Group) (level : Bool) : (s.setLevel g level).resetCause = s.resetCause := by
  cases g <;> rfl
@[simp] theorem State.setLevel_resets (s : State) (g : Group) (level : Bool) : (s.setLevel g level).resets = s.resets := by
  cases g <;> rfl
@[simp] theorem State.setLevel_lanes (s : State) (g : Group) (level : Bool) : (s.setLevel g level).lanes = s.lanes := by
  cases g <;> rfl
@[simp] theorem State.setLevel_sent (s : State) (g : Group) (level : Bool) : (s.setLevel g level).sent = s.sent := by
  cases g <;> rfl
@[simp] theorem State.setLevel_lout (s : State) (g : Group) (level : Bool) : (s.setLevel g level).lout = s.lout := by
  cases g <;> rfl
@[simp] theorem State.setLevel_directory (s : State) (g : Group) (level : Bool) : (s.setLevel g level).directory = s.directory := by
  cases g <;> rfl
@[simp] theorem State.setLevel_ports (s : State) (g : Group) (level : Bool) : (s.setLevel g level).ports = s.ports := by
  cases g <;> rfl
@[simp] theorem State.setLevel_mixes (s : State) (g : Group) (level : Bool) : (s.setLevel g level).mixes = s.mixes := by
  cases g <;> rfl
@[simp] theorem State.setLevel_history (s : State) (g : Group) (level : Bool) : (s.setLevel g level).history = s.history := by
  cases g <;> rfl
@[simp] theorem State.setLevel_link (s : State) (g : Group) (level : Bool) : (s.setLevel g level).link = s.link := by
  cases g <;> rfl
@[simp] theorem State.setLevel_events (s : State) (g : Group) (level : Bool) : (s.setLevel g level).events = s.events := by
  cases g <;> rfl
@[simp] theorem State.setLevel_overflow (s : State) (g : Group) (level : Bool) : (s.setLevel g level).overflow = s.overflow := by
  cases g <;> rfl
@[simp] theorem State.setLevel_capture (s : State) (g : Group) (level : Bool) : (s.setLevel g level).capture = s.capture := by
  cases g <;> rfl
@[simp] theorem State.setLevel_output (s : State) (g : Group) (level : Bool) : (s.setLevel g level).output = s.output := by
  cases g <;> rfl
@[simp] theorem State.setLevel_position (s : State) (g : Group) (level : Bool) : (s.setLevel g level).position = s.position := by
  cases g <;> rfl
@[simp] theorem State.setLevel_adout (s : State) (g : Group) (level : Bool) : (s.setLevel g level).adout = s.adout := by
  cases g <;> rfl
@[simp] theorem State.setLevel_freeCount (s : State) (g : Group) (level : Bool) : (s.setLevel g level).freeCount = s.freeCount := by
  cases g <;> rfl

@[simp] theorem State.silence_pending (s : State) : (s.silence).pending = s.pending := by
  cases s; rfl
@[simp] theorem State.silence_monitor (s : State) : (s.silence).monitor = s.monitor := by
  cases s; rfl
@[simp] theorem State.silence_stationNumber (s : State) : (s.silence).stationNumber = s.stationNumber := by
  cases s; rfl
@[simp] theorem State.silence_sequence (s : State) : (s.silence).sequence = s.sequence := by
  cases s; rfl
@[simp] theorem State.silence_station (s : State) : (s.silence).station = s.station := by
  cases s; rfl
@[simp] theorem State.silence_echoMismatch (s : State) : (s.silence).echoMismatch = s.echoMismatch := by
  cases s; rfl
@[simp] theorem State.silence_resetCause (s : State) : (s.silence).resetCause = s.resetCause := by
  cases s; rfl
@[simp] theorem State.silence_resets (s : State) : (s.silence).resets = s.resets := by
  cases s; rfl
@[simp] theorem State.silence_lanes (s : State) : (s.silence).lanes = s.lanes := by
  cases s; rfl
@[simp] theorem State.silence_sent (s : State) : (s.silence).sent = s.sent := by
  cases s; rfl
@[simp] theorem State.silence_lout (s : State) : (s.silence).lout = s.lout := by
  cases s; rfl
@[simp] theorem State.silence_directory (s : State) : (s.silence).directory = s.directory := by
  cases s; rfl
@[simp] theorem State.silence_ports (s : State) : (s.silence).ports = s.ports := by
  cases s; rfl
@[simp] theorem State.silence_levelA (s : State) : (s.silence).levelA = s.levelA := by
  cases s; rfl
@[simp] theorem State.silence_levelB (s : State) : (s.silence).levelB = s.levelB := by
  cases s; rfl
@[simp] theorem State.silence_mixes (s : State) : (s.silence).mixes = s.mixes := by
  cases s; rfl
@[simp] theorem State.silence_history (s : State) : (s.silence).history = s.history := by
  cases s; rfl
@[simp] theorem State.silence_link (s : State) : (s.silence).link = s.link := by
  cases s; rfl
@[simp] theorem State.silence_events (s : State) : (s.silence).events = s.events := by
  cases s; rfl
@[simp] theorem State.silence_overflow (s : State) : (s.silence).overflow = s.overflow := by
  cases s; rfl
@[simp] theorem State.silence_capture (s : State) : (s.silence).capture = s.capture := by
  cases s; rfl
@[simp] theorem State.silence_position (s : State) : (s.silence).position = s.position := by
  cases s; rfl
@[simp] theorem State.silence_adout (s : State) : (s.silence).adout = s.adout := by
  cases s; rfl
@[simp] theorem State.silence_freeCount (s : State) : (s.silence).freeCount = s.freeCount := by
  cases s; rfl

@[simp] theorem State.emptyAllClaims_pending (s : State) : (s.emptyAllClaims).pending = s.pending := by
  cases s; rfl
@[simp] theorem State.emptyAllClaims_monitor (s : State) : (s.emptyAllClaims).monitor = s.monitor := by
  cases s; rfl
@[simp] theorem State.emptyAllClaims_stationNumber (s : State) : (s.emptyAllClaims).stationNumber = s.stationNumber := by
  cases s; rfl
@[simp] theorem State.emptyAllClaims_sequence (s : State) : (s.emptyAllClaims).sequence = s.sequence := by
  cases s; rfl
@[simp] theorem State.emptyAllClaims_station (s : State) : (s.emptyAllClaims).station = s.station := by
  cases s; rfl
@[simp] theorem State.emptyAllClaims_echoMismatch (s : State) : (s.emptyAllClaims).echoMismatch = s.echoMismatch := by
  cases s; rfl
@[simp] theorem State.emptyAllClaims_resetCause (s : State) : (s.emptyAllClaims).resetCause = s.resetCause := by
  cases s; rfl
@[simp] theorem State.emptyAllClaims_resets (s : State) : (s.emptyAllClaims).resets = s.resets := by
  cases s; rfl
@[simp] theorem State.emptyAllClaims_lanes (s : State) : (s.emptyAllClaims).lanes = s.lanes := by
  cases s; rfl
@[simp] theorem State.emptyAllClaims_sent (s : State) : (s.emptyAllClaims).sent = s.sent := by
  cases s; rfl
@[simp] theorem State.emptyAllClaims_lout (s : State) : (s.emptyAllClaims).lout = s.lout := by
  cases s; rfl
@[simp] theorem State.emptyAllClaims_directory (s : State) : (s.emptyAllClaims).directory = s.directory := by
  cases s; rfl
@[simp] theorem State.emptyAllClaims_levelA (s : State) : (s.emptyAllClaims).levelA = s.levelA := by
  cases s; rfl
@[simp] theorem State.emptyAllClaims_levelB (s : State) : (s.emptyAllClaims).levelB = s.levelB := by
  cases s; rfl
@[simp] theorem State.emptyAllClaims_mixes (s : State) : (s.emptyAllClaims).mixes = s.mixes := by
  cases s; rfl
@[simp] theorem State.emptyAllClaims_history (s : State) : (s.emptyAllClaims).history = s.history := by
  cases s; rfl
@[simp] theorem State.emptyAllClaims_link (s : State) : (s.emptyAllClaims).link = s.link := by
  cases s; rfl
@[simp] theorem State.emptyAllClaims_events (s : State) : (s.emptyAllClaims).events = s.events := by
  cases s; rfl
@[simp] theorem State.emptyAllClaims_overflow (s : State) : (s.emptyAllClaims).overflow = s.overflow := by
  cases s; rfl
@[simp] theorem State.emptyAllClaims_capture (s : State) : (s.emptyAllClaims).capture = s.capture := by
  cases s; rfl
@[simp] theorem State.emptyAllClaims_output (s : State) : (s.emptyAllClaims).output = s.output := by
  cases s; rfl
@[simp] theorem State.emptyAllClaims_position (s : State) : (s.emptyAllClaims).position = s.position := by
  cases s; rfl
@[simp] theorem State.emptyAllClaims_adout (s : State) : (s.emptyAllClaims).adout = s.adout := by
  cases s; rfl
@[simp] theorem State.emptyAllClaims_freeCount (s : State) : (s.emptyAllClaims).freeCount = s.freeCount := by
  cases s; rfl

@[simp] theorem State.enterConflict_pending (s : State) : (s.enterConflict).pending = s.pending := by
  cases s; rfl
@[simp] theorem State.enterConflict_monitor (s : State) : (s.enterConflict).monitor = s.monitor := by
  cases s; rfl
@[simp] theorem State.enterConflict_stationNumber (s : State) : (s.enterConflict).stationNumber = s.stationNumber := by
  cases s; rfl
@[simp] theorem State.enterConflict_sequence (s : State) : (s.enterConflict).sequence = s.sequence := by
  cases s; rfl
@[simp] theorem State.enterConflict_echoMismatch (s : State) : (s.enterConflict).echoMismatch = s.echoMismatch := by
  cases s; rfl
@[simp] theorem State.enterConflict_resetCause (s : State) : (s.enterConflict).resetCause = s.resetCause := by
  cases s; rfl
@[simp] theorem State.enterConflict_resets (s : State) : (s.enterConflict).resets = s.resets := by
  cases s; rfl
@[simp] theorem State.enterConflict_lanes (s : State) : (s.enterConflict).lanes = s.lanes := by
  cases s; rfl
@[simp] theorem State.enterConflict_sent (s : State) : (s.enterConflict).sent = s.sent := by
  cases s; rfl
@[simp] theorem State.enterConflict_directory (s : State) : (s.enterConflict).directory = s.directory := by
  cases s; rfl
@[simp] theorem State.enterConflict_levelA (s : State) : (s.enterConflict).levelA = s.levelA := by
  cases s; rfl
@[simp] theorem State.enterConflict_levelB (s : State) : (s.enterConflict).levelB = s.levelB := by
  cases s; rfl
@[simp] theorem State.enterConflict_mixes (s : State) : (s.enterConflict).mixes = s.mixes := by
  cases s; rfl
@[simp] theorem State.enterConflict_history (s : State) : (s.enterConflict).history = s.history := by
  cases s; rfl
@[simp] theorem State.enterConflict_link (s : State) : (s.enterConflict).link = s.link := by
  cases s; rfl
@[simp] theorem State.enterConflict_events (s : State) : (s.enterConflict).events = s.events := by
  cases s; rfl
@[simp] theorem State.enterConflict_overflow (s : State) : (s.enterConflict).overflow = s.overflow := by
  cases s; rfl
@[simp] theorem State.enterConflict_capture (s : State) : (s.enterConflict).capture = s.capture := by
  cases s; rfl
@[simp] theorem State.enterConflict_output (s : State) : (s.enterConflict).output = s.output := by
  cases s; rfl
@[simp] theorem State.enterConflict_position (s : State) : (s.enterConflict).position = s.position := by
  cases s; rfl
@[simp] theorem State.enterConflict_adout (s : State) : (s.enterConflict).adout = s.adout := by
  cases s; rfl
@[simp] theorem State.enterConflict_freeCount (s : State) : (s.enterConflict).freeCount = s.freeCount := by
  cases s; rfl

@[simp] theorem State.enterClosing_pending (s : State) (cause : ClosingCause) : (s.enterClosing cause).pending = s.pending := by
  cases s; rfl
@[simp] theorem State.enterClosing_monitor (s : State) (cause : ClosingCause) : (s.enterClosing cause).monitor = s.monitor := by
  cases s; rfl
@[simp] theorem State.enterClosing_stationNumber (s : State) (cause : ClosingCause) : (s.enterClosing cause).stationNumber = s.stationNumber := by
  cases s; rfl
@[simp] theorem State.enterClosing_sequence (s : State) (cause : ClosingCause) : (s.enterClosing cause).sequence = s.sequence := by
  cases s; rfl
@[simp] theorem State.enterClosing_echoMismatch (s : State) (cause : ClosingCause) : (s.enterClosing cause).echoMismatch = s.echoMismatch := by
  cases s; rfl
@[simp] theorem State.enterClosing_resetCause (s : State) (cause : ClosingCause) : (s.enterClosing cause).resetCause = s.resetCause := by
  cases s; rfl
@[simp] theorem State.enterClosing_resets (s : State) (cause : ClosingCause) : (s.enterClosing cause).resets = s.resets := by
  cases s; rfl
@[simp] theorem State.enterClosing_lanes (s : State) (cause : ClosingCause) : (s.enterClosing cause).lanes = s.lanes := by
  cases s; rfl
@[simp] theorem State.enterClosing_sent (s : State) (cause : ClosingCause) : (s.enterClosing cause).sent = s.sent := by
  cases s; rfl
@[simp] theorem State.enterClosing_lout (s : State) (cause : ClosingCause) : (s.enterClosing cause).lout = s.lout := by
  cases s; rfl
@[simp] theorem State.enterClosing_directory (s : State) (cause : ClosingCause) : (s.enterClosing cause).directory = s.directory := by
  cases s; rfl
@[simp] theorem State.enterClosing_levelA (s : State) (cause : ClosingCause) : (s.enterClosing cause).levelA = s.levelA := by
  cases s; rfl
@[simp] theorem State.enterClosing_levelB (s : State) (cause : ClosingCause) : (s.enterClosing cause).levelB = s.levelB := by
  cases s; rfl
@[simp] theorem State.enterClosing_history (s : State) (cause : ClosingCause) : (s.enterClosing cause).history = s.history := by
  cases s; rfl
@[simp] theorem State.enterClosing_link (s : State) (cause : ClosingCause) : (s.enterClosing cause).link = s.link := by
  cases s; rfl
@[simp] theorem State.enterClosing_events (s : State) (cause : ClosingCause) : (s.enterClosing cause).events = s.events := by
  cases s; rfl
@[simp] theorem State.enterClosing_overflow (s : State) (cause : ClosingCause) : (s.enterClosing cause).overflow = s.overflow := by
  cases s; rfl
@[simp] theorem State.enterClosing_capture (s : State) (cause : ClosingCause) : (s.enterClosing cause).capture = s.capture := by
  cases s; rfl
@[simp] theorem State.enterClosing_output (s : State) (cause : ClosingCause) : (s.enterClosing cause).output = s.output := by
  cases s; rfl
@[simp] theorem State.enterClosing_position (s : State) (cause : ClosingCause) : (s.enterClosing cause).position = s.position := by
  cases s; rfl
@[simp] theorem State.enterClosing_adout (s : State) (cause : ClosingCause) : (s.enterClosing cause).adout = s.adout := by
  cases s; rfl
@[simp] theorem State.enterClosing_freeCount (s : State) (cause : ClosingCause) : (s.enterClosing cause).freeCount = s.freeCount := by
  cases s; rfl

@[simp] theorem monitorPass_pending (instant : Nat) (s : State) : (monitorPass instant s).st.pending = s.pending := by
  dsimp only [monitorPass]; (repeat' split) <;> simp
@[simp] theorem monitorPass_stationNumber (instant : Nat) (s : State) : (monitorPass instant s).st.stationNumber = s.stationNumber := by
  dsimp only [monitorPass]; (repeat' split) <;> simp
@[simp] theorem monitorPass_sequence (instant : Nat) (s : State) : (monitorPass instant s).st.sequence = s.sequence := by
  dsimp only [monitorPass]; (repeat' split) <;> simp
@[simp] theorem monitorPass_resetCause (instant : Nat) (s : State) : (monitorPass instant s).st.resetCause = s.resetCause := by
  dsimp only [monitorPass]; (repeat' split) <;> simp
@[simp] theorem monitorPass_resets (instant : Nat) (s : State) : (monitorPass instant s).st.resets = s.resets := by
  dsimp only [monitorPass]; (repeat' split) <;> simp
@[simp] theorem monitorPass_lanes (instant : Nat) (s : State) : (monitorPass instant s).st.lanes = s.lanes := by
  dsimp only [monitorPass]; (repeat' split) <;> simp
@[simp] theorem monitorPass_sent (instant : Nat) (s : State) : (monitorPass instant s).st.sent = s.sent := by
  dsimp only [monitorPass]; (repeat' split) <;> simp
@[simp] theorem monitorPass_lout (instant : Nat) (s : State) : (monitorPass instant s).st.lout = s.lout := by
  dsimp only [monitorPass]; (repeat' split) <;> simp
@[simp] theorem monitorPass_directory (instant : Nat) (s : State) : (monitorPass instant s).st.directory = s.directory := by
  dsimp only [monitorPass]; (repeat' split) <;> simp
@[simp] theorem monitorPass_ports (instant : Nat) (s : State) : (monitorPass instant s).st.ports = s.ports := by
  dsimp only [monitorPass]; (repeat' split) <;> simp
@[simp] theorem monitorPass_levelA (instant : Nat) (s : State) : (monitorPass instant s).st.levelA = s.levelA := by
  dsimp only [monitorPass]; (repeat' split) <;> simp
@[simp] theorem monitorPass_levelB (instant : Nat) (s : State) : (monitorPass instant s).st.levelB = s.levelB := by
  dsimp only [monitorPass]; (repeat' split) <;> simp
@[simp] theorem monitorPass_mixes (instant : Nat) (s : State) : (monitorPass instant s).st.mixes = s.mixes := by
  dsimp only [monitorPass]; (repeat' split) <;> simp
@[simp] theorem monitorPass_history (instant : Nat) (s : State) : (monitorPass instant s).st.history = s.history := by
  dsimp only [monitorPass]; (repeat' split) <;> simp
@[simp] theorem monitorPass_link (instant : Nat) (s : State) : (monitorPass instant s).st.link = s.link := by
  dsimp only [monitorPass]; (repeat' split) <;> simp
@[simp] theorem monitorPass_events (instant : Nat) (s : State) : (monitorPass instant s).st.events = s.events := by
  dsimp only [monitorPass]; (repeat' split) <;> simp
@[simp] theorem monitorPass_overflow (instant : Nat) (s : State) : (monitorPass instant s).st.overflow = s.overflow := by
  dsimp only [monitorPass]; (repeat' split) <;> simp
@[simp] theorem monitorPass_capture (instant : Nat) (s : State) : (monitorPass instant s).st.capture = s.capture := by
  dsimp only [monitorPass]; (repeat' split) <;> simp
@[simp] theorem monitorPass_output (instant : Nat) (s : State) : (monitorPass instant s).st.output = s.output := by
  dsimp only [monitorPass]; (repeat' split) <;> simp
@[simp] theorem monitorPass_position (instant : Nat) (s : State) : (monitorPass instant s).st.position = s.position := by
  dsimp only [monitorPass]; (repeat' split) <;> simp
@[simp] theorem monitorPass_adout (instant : Nat) (s : State) : (monitorPass instant s).st.adout = s.adout := by
  dsimp only [monitorPass]; (repeat' split) <;> simp
@[simp] theorem monitorPass_freeCount (instant : Nat) (s : State) : (monitorPass instant s).st.freeCount = s.freeCount := by
  dsimp only [monitorPass]; (repeat' split) <;> simp

@[simp] theorem faultPass_pending (g : Group) (sample : Bool) (s : State) : (faultPass g sample s).st.pending = s.pending := by
  dsimp only [faultPass]; (repeat' split) <;> simp
@[simp] theorem faultPass_monitor (g : Group) (sample : Bool) (s : State) : (faultPass g sample s).st.monitor = s.monitor := by
  dsimp only [faultPass]; (repeat' split) <;> simp
@[simp] theorem faultPass_stationNumber (g : Group) (sample : Bool) (s : State) : (faultPass g sample s).st.stationNumber = s.stationNumber := by
  dsimp only [faultPass]; (repeat' split) <;> simp
@[simp] theorem faultPass_sequence (g : Group) (sample : Bool) (s : State) : (faultPass g sample s).st.sequence = s.sequence := by
  dsimp only [faultPass]; (repeat' split) <;> simp
@[simp] theorem faultPass_station (g : Group) (sample : Bool) (s : State) : (faultPass g sample s).st.station = s.station := by
  dsimp only [faultPass]; (repeat' split) <;> simp
@[simp] theorem faultPass_echoMismatch (g : Group) (sample : Bool) (s : State) : (faultPass g sample s).st.echoMismatch = s.echoMismatch := by
  dsimp only [faultPass]; (repeat' split) <;> simp
@[simp] theorem faultPass_resetCause (g : Group) (sample : Bool) (s : State) : (faultPass g sample s).st.resetCause = s.resetCause := by
  dsimp only [faultPass]; (repeat' split) <;> simp
@[simp] theorem faultPass_resets (g : Group) (sample : Bool) (s : State) : (faultPass g sample s).st.resets = s.resets := by
  dsimp only [faultPass]; (repeat' split) <;> simp
@[simp] theorem faultPass_lanes (g : Group) (sample : Bool) (s : State) : (faultPass g sample s).st.lanes = s.lanes := by
  dsimp only [faultPass]; (repeat' split) <;> simp
@[simp] theorem faultPass_sent (g : Group) (sample : Bool) (s : State) : (faultPass g sample s).st.sent = s.sent := by
  dsimp only [faultPass]; (repeat' split) <;> simp
@[simp] theorem faultPass_lout (g : Group) (sample : Bool) (s : State) : (faultPass g sample s).st.lout = s.lout := by
  dsimp only [faultPass]; (repeat' split) <;> simp
@[simp] theorem faultPass_directory (g : Group) (sample : Bool) (s : State) : (faultPass g sample s).st.directory = s.directory := by
  dsimp only [faultPass]; (repeat' split) <;> simp
@[simp] theorem faultPass_mixes (g : Group) (sample : Bool) (s : State) : (faultPass g sample s).st.mixes = s.mixes := by
  dsimp only [faultPass]; (repeat' split) <;> simp
@[simp] theorem faultPass_history (g : Group) (sample : Bool) (s : State) : (faultPass g sample s).st.history = s.history := by
  dsimp only [faultPass]; (repeat' split) <;> simp
@[simp] theorem faultPass_link (g : Group) (sample : Bool) (s : State) : (faultPass g sample s).st.link = s.link := by
  dsimp only [faultPass]; (repeat' split) <;> simp
@[simp] theorem faultPass_events (g : Group) (sample : Bool) (s : State) : (faultPass g sample s).st.events = s.events := by
  dsimp only [faultPass]; (repeat' split) <;> simp
@[simp] theorem faultPass_overflow (g : Group) (sample : Bool) (s : State) : (faultPass g sample s).st.overflow = s.overflow := by
  dsimp only [faultPass]; (repeat' split) <;> simp
@[simp] theorem faultPass_capture (g : Group) (sample : Bool) (s : State) : (faultPass g sample s).st.capture = s.capture := by
  dsimp only [faultPass]; (repeat' split) <;> simp
@[simp] theorem faultPass_output (g : Group) (sample : Bool) (s : State) : (faultPass g sample s).st.output = s.output := by
  dsimp only [faultPass]; (repeat' split) <;> simp
@[simp] theorem faultPass_position (g : Group) (sample : Bool) (s : State) : (faultPass g sample s).st.position = s.position := by
  dsimp only [faultPass]; (repeat' split) <;> simp
@[simp] theorem faultPass_adout (g : Group) (sample : Bool) (s : State) : (faultPass g sample s).st.adout = s.adout := by
  dsimp only [faultPass]; (repeat' split) <;> simp
@[simp] theorem faultPass_freeCount (g : Group) (sample : Bool) (s : State) : (faultPass g sample s).st.freeCount = s.freeCount := by
  dsimp only [faultPass]; (repeat' split) <;> simp

@[simp] theorem echoPass_pending (verdict : Verdict) (s : State) : (echoPass verdict s).st.pending = s.pending := by
  dsimp only [echoPass]; (repeat' split) <;> simp
@[simp] theorem echoPass_monitor (verdict : Verdict) (s : State) : (echoPass verdict s).st.monitor = s.monitor := by
  dsimp only [echoPass]; (repeat' split) <;> simp
@[simp] theorem echoPass_stationNumber (verdict : Verdict) (s : State) : (echoPass verdict s).st.stationNumber = s.stationNumber := by
  dsimp only [echoPass]; (repeat' split) <;> simp
@[simp] theorem echoPass_sequence (verdict : Verdict) (s : State) : (echoPass verdict s).st.sequence = s.sequence := by
  dsimp only [echoPass]; (repeat' split) <;> simp
@[simp] theorem echoPass_resetCause (verdict : Verdict) (s : State) : (echoPass verdict s).st.resetCause = s.resetCause := by
  dsimp only [echoPass]; (repeat' split) <;> simp
@[simp] theorem echoPass_resets (verdict : Verdict) (s : State) : (echoPass verdict s).st.resets = s.resets := by
  dsimp only [echoPass]; (repeat' split) <;> simp
@[simp] theorem echoPass_lanes (verdict : Verdict) (s : State) : (echoPass verdict s).st.lanes = s.lanes := by
  dsimp only [echoPass]; (repeat' split) <;> simp
@[simp] theorem echoPass_sent (verdict : Verdict) (s : State) : (echoPass verdict s).st.sent = s.sent := by
  dsimp only [echoPass]; (repeat' split) <;> simp
@[simp] theorem echoPass_directory (verdict : Verdict) (s : State) : (echoPass verdict s).st.directory = s.directory := by
  dsimp only [echoPass]; (repeat' split) <;> simp
@[simp] theorem echoPass_levelA (verdict : Verdict) (s : State) : (echoPass verdict s).st.levelA = s.levelA := by
  dsimp only [echoPass]; (repeat' split) <;> simp
@[simp] theorem echoPass_levelB (verdict : Verdict) (s : State) : (echoPass verdict s).st.levelB = s.levelB := by
  dsimp only [echoPass]; (repeat' split) <;> simp
@[simp] theorem echoPass_mixes (verdict : Verdict) (s : State) : (echoPass verdict s).st.mixes = s.mixes := by
  dsimp only [echoPass]; (repeat' split) <;> simp
@[simp] theorem echoPass_history (verdict : Verdict) (s : State) : (echoPass verdict s).st.history = s.history := by
  dsimp only [echoPass]; (repeat' split) <;> simp
@[simp] theorem echoPass_link (verdict : Verdict) (s : State) : (echoPass verdict s).st.link = s.link := by
  dsimp only [echoPass]; (repeat' split) <;> simp
@[simp] theorem echoPass_events (verdict : Verdict) (s : State) : (echoPass verdict s).st.events = s.events := by
  dsimp only [echoPass]; (repeat' split) <;> simp
@[simp] theorem echoPass_overflow (verdict : Verdict) (s : State) : (echoPass verdict s).st.overflow = s.overflow := by
  dsimp only [echoPass]; (repeat' split) <;> simp
@[simp] theorem echoPass_capture (verdict : Verdict) (s : State) : (echoPass verdict s).st.capture = s.capture := by
  dsimp only [echoPass]; (repeat' split) <;> simp
@[simp] theorem echoPass_output (verdict : Verdict) (s : State) : (echoPass verdict s).st.output = s.output := by
  dsimp only [echoPass]; (repeat' split) <;> simp
@[simp] theorem echoPass_position (verdict : Verdict) (s : State) : (echoPass verdict s).st.position = s.position := by
  dsimp only [echoPass]; (repeat' split) <;> simp
@[simp] theorem echoPass_adout (verdict : Verdict) (s : State) : (echoPass verdict s).st.adout = s.adout := by
  dsimp only [echoPass]; (repeat' split) <;> simp
@[simp] theorem echoPass_freeCount (verdict : Verdict) (s : State) : (echoPass verdict s).st.freeCount = s.freeCount := by
  dsimp only [echoPass]; (repeat' split) <;> simp

@[simp] theorem listenPass_pending (s : State) : (listenPass s).st.pending = s.pending := by
  dsimp only [listenPass]; (repeat' split) <;> simp
@[simp] theorem listenPass_monitor (s : State) : (listenPass s).st.monitor = s.monitor := by
  dsimp only [listenPass]; (repeat' split) <;> simp
@[simp] theorem listenPass_stationNumber (s : State) : (listenPass s).st.stationNumber = s.stationNumber := by
  dsimp only [listenPass]; (repeat' split) <;> simp
@[simp] theorem listenPass_sequence (s : State) : (listenPass s).st.sequence = s.sequence := by
  dsimp only [listenPass]; (repeat' split) <;> simp
@[simp] theorem listenPass_echoMismatch (s : State) : (listenPass s).st.echoMismatch = s.echoMismatch := by
  dsimp only [listenPass]; (repeat' split) <;> simp
@[simp] theorem listenPass_resetCause (s : State) : (listenPass s).st.resetCause = s.resetCause := by
  dsimp only [listenPass]; (repeat' split) <;> simp
@[simp] theorem listenPass_resets (s : State) : (listenPass s).st.resets = s.resets := by
  dsimp only [listenPass]; (repeat' split) <;> simp
@[simp] theorem listenPass_lanes (s : State) : (listenPass s).st.lanes = s.lanes := by
  dsimp only [listenPass]; (repeat' split) <;> simp
@[simp] theorem listenPass_sent (s : State) : (listenPass s).st.sent = s.sent := by
  dsimp only [listenPass]; (repeat' split) <;> simp
@[simp] theorem listenPass_directory (s : State) : (listenPass s).st.directory = s.directory := by
  dsimp only [listenPass]; (repeat' split) <;> simp
@[simp] theorem listenPass_levelA (s : State) : (listenPass s).st.levelA = s.levelA := by
  dsimp only [listenPass]; (repeat' split) <;> simp
@[simp] theorem listenPass_levelB (s : State) : (listenPass s).st.levelB = s.levelB := by
  dsimp only [listenPass]; (repeat' split) <;> simp
@[simp] theorem listenPass_mixes (s : State) : (listenPass s).st.mixes = s.mixes := by
  dsimp only [listenPass]; (repeat' split) <;> simp
@[simp] theorem listenPass_history (s : State) : (listenPass s).st.history = s.history := by
  dsimp only [listenPass]; (repeat' split) <;> simp
@[simp] theorem listenPass_link (s : State) : (listenPass s).st.link = s.link := by
  dsimp only [listenPass]; (repeat' split) <;> simp
@[simp] theorem listenPass_events (s : State) : (listenPass s).st.events = s.events := by
  dsimp only [listenPass]; (repeat' split) <;> simp
@[simp] theorem listenPass_overflow (s : State) : (listenPass s).st.overflow = s.overflow := by
  dsimp only [listenPass]; (repeat' split) <;> simp
@[simp] theorem listenPass_capture (s : State) : (listenPass s).st.capture = s.capture := by
  dsimp only [listenPass]; (repeat' split) <;> simp
@[simp] theorem listenPass_output (s : State) : (listenPass s).st.output = s.output := by
  dsimp only [listenPass]; (repeat' split) <;> simp
@[simp] theorem listenPass_position (s : State) : (listenPass s).st.position = s.position := by
  dsimp only [listenPass]; (repeat' split) <;> simp
@[simp] theorem listenPass_adout (s : State) : (listenPass s).st.adout = s.adout := by
  dsimp only [listenPass]; (repeat' split) <;> simp
@[simp] theorem listenPass_freeCount (s : State) : (listenPass s).st.freeCount = s.freeCount := by
  dsimp only [listenPass]; (repeat' split) <;> simp

@[simp] theorem closedPass_pending (s : State) : (closedPass s).st.pending = s.pending := by
  dsimp only [closedPass]; (repeat' split) <;> simp
@[simp] theorem closedPass_monitor (s : State) : (closedPass s).st.monitor = s.monitor := by
  dsimp only [closedPass]; (repeat' split) <;> simp
@[simp] theorem closedPass_stationNumber (s : State) : (closedPass s).st.stationNumber = s.stationNumber := by
  dsimp only [closedPass]; (repeat' split) <;> simp
@[simp] theorem closedPass_sequence (s : State) : (closedPass s).st.sequence = s.sequence := by
  dsimp only [closedPass]; (repeat' split) <;> simp
@[simp] theorem closedPass_echoMismatch (s : State) : (closedPass s).st.echoMismatch = s.echoMismatch := by
  dsimp only [closedPass]; (repeat' split) <;> simp
@[simp] theorem closedPass_resetCause (s : State) : (closedPass s).st.resetCause = s.resetCause := by
  dsimp only [closedPass]; (repeat' split) <;> simp
@[simp] theorem closedPass_resets (s : State) : (closedPass s).st.resets = s.resets := by
  dsimp only [closedPass]; (repeat' split) <;> simp
@[simp] theorem closedPass_lanes (s : State) : (closedPass s).st.lanes = s.lanes := by
  dsimp only [closedPass]; (repeat' split) <;> simp
@[simp] theorem closedPass_sent (s : State) : (closedPass s).st.sent = s.sent := by
  dsimp only [closedPass]; (repeat' split) <;> simp
@[simp] theorem closedPass_directory (s : State) : (closedPass s).st.directory = s.directory := by
  dsimp only [closedPass]; (repeat' split) <;> simp
@[simp] theorem closedPass_ports (s : State) : (closedPass s).st.ports = s.ports := by
  dsimp only [closedPass]; (repeat' split) <;> simp
@[simp] theorem closedPass_levelA (s : State) : (closedPass s).st.levelA = s.levelA := by
  dsimp only [closedPass]; (repeat' split) <;> simp
@[simp] theorem closedPass_levelB (s : State) : (closedPass s).st.levelB = s.levelB := by
  dsimp only [closedPass]; (repeat' split) <;> simp
@[simp] theorem closedPass_mixes (s : State) : (closedPass s).st.mixes = s.mixes := by
  dsimp only [closedPass]; (repeat' split) <;> simp
@[simp] theorem closedPass_history (s : State) : (closedPass s).st.history = s.history := by
  dsimp only [closedPass]; (repeat' split) <;> simp
@[simp] theorem closedPass_link (s : State) : (closedPass s).st.link = s.link := by
  dsimp only [closedPass]; (repeat' split) <;> simp
@[simp] theorem closedPass_events (s : State) : (closedPass s).st.events = s.events := by
  dsimp only [closedPass]; (repeat' split) <;> simp
@[simp] theorem closedPass_overflow (s : State) : (closedPass s).st.overflow = s.overflow := by
  dsimp only [closedPass]; (repeat' split) <;> simp
@[simp] theorem closedPass_capture (s : State) : (closedPass s).st.capture = s.capture := by
  dsimp only [closedPass]; (repeat' split) <;> simp
@[simp] theorem closedPass_output (s : State) : (closedPass s).st.output = s.output := by
  dsimp only [closedPass]; (repeat' split) <;> simp
@[simp] theorem closedPass_position (s : State) : (closedPass s).st.position = s.position := by
  dsimp only [closedPass]; (repeat' split) <;> simp
@[simp] theorem closedPass_adout (s : State) : (closedPass s).st.adout = s.adout := by
  dsimp only [closedPass]; (repeat' split) <;> simp
@[simp] theorem closedPass_freeCount (s : State) : (closedPass s).st.freeCount = s.freeCount := by
  dsimp only [closedPass]; (repeat' split) <;> simp

@[simp] theorem lanePass_pending (frames : Vector BlockFrame 16) (s : State) : (lanePass frames s).st.pending = s.pending := by
  simp [lanePass]
@[simp] theorem lanePass_monitor (frames : Vector BlockFrame 16) (s : State) : (lanePass frames s).st.monitor = s.monitor := by
  simp [lanePass]
@[simp] theorem lanePass_stationNumber (frames : Vector BlockFrame 16) (s : State) : (lanePass frames s).st.stationNumber = s.stationNumber := by
  simp [lanePass]
@[simp] theorem lanePass_sequence (frames : Vector BlockFrame 16) (s : State) : (lanePass frames s).st.sequence = s.sequence := by
  simp [lanePass]
@[simp] theorem lanePass_station (frames : Vector BlockFrame 16) (s : State) : (lanePass frames s).st.station = s.station := by
  simp [lanePass]
@[simp] theorem lanePass_echoMismatch (frames : Vector BlockFrame 16) (s : State) : (lanePass frames s).st.echoMismatch = s.echoMismatch := by
  simp [lanePass]
@[simp] theorem lanePass_resetCause (frames : Vector BlockFrame 16) (s : State) : (lanePass frames s).st.resetCause = s.resetCause := by
  simp [lanePass]
@[simp] theorem lanePass_resets (frames : Vector BlockFrame 16) (s : State) : (lanePass frames s).st.resets = s.resets := by
  simp [lanePass]
@[simp] theorem lanePass_sent (frames : Vector BlockFrame 16) (s : State) : (lanePass frames s).st.sent = s.sent := by
  simp [lanePass]
@[simp] theorem lanePass_lout (frames : Vector BlockFrame 16) (s : State) : (lanePass frames s).st.lout = s.lout := by
  simp [lanePass]
@[simp] theorem lanePass_directory (frames : Vector BlockFrame 16) (s : State) : (lanePass frames s).st.directory = s.directory := by
  simp [lanePass]
@[simp] theorem lanePass_ports (frames : Vector BlockFrame 16) (s : State) : (lanePass frames s).st.ports = s.ports := by
  simp [lanePass]
@[simp] theorem lanePass_levelA (frames : Vector BlockFrame 16) (s : State) : (lanePass frames s).st.levelA = s.levelA := by
  simp [lanePass]
@[simp] theorem lanePass_levelB (frames : Vector BlockFrame 16) (s : State) : (lanePass frames s).st.levelB = s.levelB := by
  simp [lanePass]
@[simp] theorem lanePass_mixes (frames : Vector BlockFrame 16) (s : State) : (lanePass frames s).st.mixes = s.mixes := by
  simp [lanePass]
@[simp] theorem lanePass_history (frames : Vector BlockFrame 16) (s : State) : (lanePass frames s).st.history = s.history := by
  simp [lanePass]
@[simp] theorem lanePass_link (frames : Vector BlockFrame 16) (s : State) : (lanePass frames s).st.link = s.link := by
  simp [lanePass]
@[simp] theorem lanePass_events (frames : Vector BlockFrame 16) (s : State) : (lanePass frames s).st.events = s.events := by
  simp [lanePass]
@[simp] theorem lanePass_overflow (frames : Vector BlockFrame 16) (s : State) : (lanePass frames s).st.overflow = s.overflow := by
  simp [lanePass]
@[simp] theorem lanePass_capture (frames : Vector BlockFrame 16) (s : State) : (lanePass frames s).st.capture = s.capture := by
  simp [lanePass]
@[simp] theorem lanePass_output (frames : Vector BlockFrame 16) (s : State) : (lanePass frames s).st.output = s.output := by
  simp [lanePass]
@[simp] theorem lanePass_position (frames : Vector BlockFrame 16) (s : State) : (lanePass frames s).st.position = s.position := by
  simp [lanePass]
@[simp] theorem lanePass_adout (frames : Vector BlockFrame 16) (s : State) : (lanePass frames s).st.adout = s.adout := by
  simp [lanePass]
@[simp] theorem lanePass_freeCount (frames : Vector BlockFrame 16) (s : State) : (lanePass frames s).st.freeCount = s.freeCount := by
  simp [lanePass]

@[simp] theorem directoryPass_pending (frames : Vector BlockFrame 16) (absent : Vector Bool 16) (s : State) : (directoryPass frames absent s).st.pending = s.pending := by
  simp [directoryPass]
@[simp] theorem directoryPass_monitor (frames : Vector BlockFrame 16) (absent : Vector Bool 16) (s : State) : (directoryPass frames absent s).st.monitor = s.monitor := by
  simp [directoryPass]
@[simp] theorem directoryPass_stationNumber (frames : Vector BlockFrame 16) (absent : Vector Bool 16) (s : State) : (directoryPass frames absent s).st.stationNumber = s.stationNumber := by
  simp [directoryPass]
@[simp] theorem directoryPass_sequence (frames : Vector BlockFrame 16) (absent : Vector Bool 16) (s : State) : (directoryPass frames absent s).st.sequence = s.sequence := by
  simp [directoryPass]
@[simp] theorem directoryPass_station (frames : Vector BlockFrame 16) (absent : Vector Bool 16) (s : State) : (directoryPass frames absent s).st.station = s.station := by
  simp [directoryPass]
@[simp] theorem directoryPass_echoMismatch (frames : Vector BlockFrame 16) (absent : Vector Bool 16) (s : State) : (directoryPass frames absent s).st.echoMismatch = s.echoMismatch := by
  simp [directoryPass]
@[simp] theorem directoryPass_resetCause (frames : Vector BlockFrame 16) (absent : Vector Bool 16) (s : State) : (directoryPass frames absent s).st.resetCause = s.resetCause := by
  simp [directoryPass]
@[simp] theorem directoryPass_resets (frames : Vector BlockFrame 16) (absent : Vector Bool 16) (s : State) : (directoryPass frames absent s).st.resets = s.resets := by
  simp [directoryPass]
@[simp] theorem directoryPass_lanes (frames : Vector BlockFrame 16) (absent : Vector Bool 16) (s : State) : (directoryPass frames absent s).st.lanes = s.lanes := by
  simp [directoryPass]
@[simp] theorem directoryPass_sent (frames : Vector BlockFrame 16) (absent : Vector Bool 16) (s : State) : (directoryPass frames absent s).st.sent = s.sent := by
  simp [directoryPass]
@[simp] theorem directoryPass_lout (frames : Vector BlockFrame 16) (absent : Vector Bool 16) (s : State) : (directoryPass frames absent s).st.lout = s.lout := by
  simp [directoryPass]
@[simp] theorem directoryPass_ports (frames : Vector BlockFrame 16) (absent : Vector Bool 16) (s : State) : (directoryPass frames absent s).st.ports = s.ports := by
  simp [directoryPass]
@[simp] theorem directoryPass_levelA (frames : Vector BlockFrame 16) (absent : Vector Bool 16) (s : State) : (directoryPass frames absent s).st.levelA = s.levelA := by
  simp [directoryPass]
@[simp] theorem directoryPass_levelB (frames : Vector BlockFrame 16) (absent : Vector Bool 16) (s : State) : (directoryPass frames absent s).st.levelB = s.levelB := by
  simp [directoryPass]
@[simp] theorem directoryPass_mixes (frames : Vector BlockFrame 16) (absent : Vector Bool 16) (s : State) : (directoryPass frames absent s).st.mixes = s.mixes := by
  simp [directoryPass]
@[simp] theorem directoryPass_history (frames : Vector BlockFrame 16) (absent : Vector Bool 16) (s : State) : (directoryPass frames absent s).st.history = s.history := by
  simp [directoryPass]
@[simp] theorem directoryPass_link (frames : Vector BlockFrame 16) (absent : Vector Bool 16) (s : State) : (directoryPass frames absent s).st.link = s.link := by
  simp [directoryPass]
@[simp] theorem directoryPass_events (frames : Vector BlockFrame 16) (absent : Vector Bool 16) (s : State) : (directoryPass frames absent s).st.events = s.events := by
  simp [directoryPass]
@[simp] theorem directoryPass_overflow (frames : Vector BlockFrame 16) (absent : Vector Bool 16) (s : State) : (directoryPass frames absent s).st.overflow = s.overflow := by
  simp [directoryPass]
@[simp] theorem directoryPass_capture (frames : Vector BlockFrame 16) (absent : Vector Bool 16) (s : State) : (directoryPass frames absent s).st.capture = s.capture := by
  simp [directoryPass]
@[simp] theorem directoryPass_output (frames : Vector BlockFrame 16) (absent : Vector Bool 16) (s : State) : (directoryPass frames absent s).st.output = s.output := by
  simp [directoryPass]
@[simp] theorem directoryPass_position (frames : Vector BlockFrame 16) (absent : Vector Bool 16) (s : State) : (directoryPass frames absent s).st.position = s.position := by
  simp [directoryPass]
@[simp] theorem directoryPass_adout (frames : Vector BlockFrame 16) (absent : Vector Bool 16) (s : State) : (directoryPass frames absent s).st.adout = s.adout := by
  simp [directoryPass]
@[simp] theorem directoryPass_freeCount (frames : Vector BlockFrame 16) (absent : Vector Bool 16) (s : State) : (directoryPass frames absent s).st.freeCount = s.freeCount := by
  simp [directoryPass]

@[simp] theorem claimPass_pending (frames : Vector BlockFrame 16) (absent : Vector Bool 16) (s : State) : (claimPass frames absent s).st.pending = s.pending := by
  dsimp only [claimPass]; (repeat' split) <;> simp
@[simp] theorem claimPass_monitor (frames : Vector BlockFrame 16) (absent : Vector Bool 16) (s : State) : (claimPass frames absent s).st.monitor = s.monitor := by
  dsimp only [claimPass]; (repeat' split) <;> simp
@[simp] theorem claimPass_stationNumber (frames : Vector BlockFrame 16) (absent : Vector Bool 16) (s : State) : (claimPass frames absent s).st.stationNumber = s.stationNumber := by
  dsimp only [claimPass]; (repeat' split) <;> simp
@[simp] theorem claimPass_sequence (frames : Vector BlockFrame 16) (absent : Vector Bool 16) (s : State) : (claimPass frames absent s).st.sequence = s.sequence := by
  dsimp only [claimPass]; (repeat' split) <;> simp
@[simp] theorem claimPass_station (frames : Vector BlockFrame 16) (absent : Vector Bool 16) (s : State) : (claimPass frames absent s).st.station = s.station := by
  dsimp only [claimPass]; (repeat' split) <;> simp
@[simp] theorem claimPass_echoMismatch (frames : Vector BlockFrame 16) (absent : Vector Bool 16) (s : State) : (claimPass frames absent s).st.echoMismatch = s.echoMismatch := by
  dsimp only [claimPass]; (repeat' split) <;> simp
@[simp] theorem claimPass_resetCause (frames : Vector BlockFrame 16) (absent : Vector Bool 16) (s : State) : (claimPass frames absent s).st.resetCause = s.resetCause := by
  dsimp only [claimPass]; (repeat' split) <;> simp
@[simp] theorem claimPass_resets (frames : Vector BlockFrame 16) (absent : Vector Bool 16) (s : State) : (claimPass frames absent s).st.resets = s.resets := by
  dsimp only [claimPass]; (repeat' split) <;> simp
@[simp] theorem claimPass_lanes (frames : Vector BlockFrame 16) (absent : Vector Bool 16) (s : State) : (claimPass frames absent s).st.lanes = s.lanes := by
  dsimp only [claimPass]; (repeat' split) <;> simp
@[simp] theorem claimPass_sent (frames : Vector BlockFrame 16) (absent : Vector Bool 16) (s : State) : (claimPass frames absent s).st.sent = s.sent := by
  dsimp only [claimPass]; (repeat' split) <;> simp
@[simp] theorem claimPass_lout (frames : Vector BlockFrame 16) (absent : Vector Bool 16) (s : State) : (claimPass frames absent s).st.lout = s.lout := by
  dsimp only [claimPass]; (repeat' split) <;> simp
@[simp] theorem claimPass_directory (frames : Vector BlockFrame 16) (absent : Vector Bool 16) (s : State) : (claimPass frames absent s).st.directory = s.directory := by
  dsimp only [claimPass]; (repeat' split) <;> simp
@[simp] theorem claimPass_levelA (frames : Vector BlockFrame 16) (absent : Vector Bool 16) (s : State) : (claimPass frames absent s).st.levelA = s.levelA := by
  dsimp only [claimPass]; (repeat' split) <;> simp
@[simp] theorem claimPass_levelB (frames : Vector BlockFrame 16) (absent : Vector Bool 16) (s : State) : (claimPass frames absent s).st.levelB = s.levelB := by
  dsimp only [claimPass]; (repeat' split) <;> simp
@[simp] theorem claimPass_mixes (frames : Vector BlockFrame 16) (absent : Vector Bool 16) (s : State) : (claimPass frames absent s).st.mixes = s.mixes := by
  dsimp only [claimPass]; (repeat' split) <;> simp
@[simp] theorem claimPass_history (frames : Vector BlockFrame 16) (absent : Vector Bool 16) (s : State) : (claimPass frames absent s).st.history = s.history := by
  dsimp only [claimPass]; (repeat' split) <;> simp
@[simp] theorem claimPass_link (frames : Vector BlockFrame 16) (absent : Vector Bool 16) (s : State) : (claimPass frames absent s).st.link = s.link := by
  dsimp only [claimPass]; (repeat' split) <;> simp
@[simp] theorem claimPass_events (frames : Vector BlockFrame 16) (absent : Vector Bool 16) (s : State) : (claimPass frames absent s).st.events = s.events := by
  dsimp only [claimPass]; (repeat' split) <;> simp
@[simp] theorem claimPass_overflow (frames : Vector BlockFrame 16) (absent : Vector Bool 16) (s : State) : (claimPass frames absent s).st.overflow = s.overflow := by
  dsimp only [claimPass]; (repeat' split) <;> simp
@[simp] theorem claimPass_capture (frames : Vector BlockFrame 16) (absent : Vector Bool 16) (s : State) : (claimPass frames absent s).st.capture = s.capture := by
  dsimp only [claimPass]; (repeat' split) <;> simp
@[simp] theorem claimPass_output (frames : Vector BlockFrame 16) (absent : Vector Bool 16) (s : State) : (claimPass frames absent s).st.output = s.output := by
  dsimp only [claimPass]; (repeat' split) <;> simp
@[simp] theorem claimPass_position (frames : Vector BlockFrame 16) (absent : Vector Bool 16) (s : State) : (claimPass frames absent s).st.position = s.position := by
  dsimp only [claimPass]; (repeat' split) <;> simp
@[simp] theorem claimPass_adout (frames : Vector BlockFrame 16) (absent : Vector Bool 16) (s : State) : (claimPass frames absent s).st.adout = s.adout := by
  dsimp only [claimPass]; (repeat' split) <;> simp
@[simp] theorem claimPass_freeCount (frames : Vector BlockFrame 16) (absent : Vector Bool 16) (s : State) : (claimPass frames absent s).st.freeCount = s.freeCount := by
  dsimp only [claimPass]; (repeat' split) <;> simp

@[simp] theorem withdrawalPass_pending (s : State) : (withdrawalPass s).st.pending = s.pending := by
  dsimp only [withdrawalPass]; (repeat' split) <;> simp
@[simp] theorem withdrawalPass_monitor (s : State) : (withdrawalPass s).st.monitor = s.monitor := by
  dsimp only [withdrawalPass]; (repeat' split) <;> simp
@[simp] theorem withdrawalPass_stationNumber (s : State) : (withdrawalPass s).st.stationNumber = s.stationNumber := by
  dsimp only [withdrawalPass]; (repeat' split) <;> simp
@[simp] theorem withdrawalPass_sequence (s : State) : (withdrawalPass s).st.sequence = s.sequence := by
  dsimp only [withdrawalPass]; (repeat' split) <;> simp
@[simp] theorem withdrawalPass_echoMismatch (s : State) : (withdrawalPass s).st.echoMismatch = s.echoMismatch := by
  dsimp only [withdrawalPass]; (repeat' split) <;> simp
@[simp] theorem withdrawalPass_resetCause (s : State) : (withdrawalPass s).st.resetCause = s.resetCause := by
  dsimp only [withdrawalPass]; (repeat' split) <;> simp
@[simp] theorem withdrawalPass_resets (s : State) : (withdrawalPass s).st.resets = s.resets := by
  dsimp only [withdrawalPass]; (repeat' split) <;> simp
@[simp] theorem withdrawalPass_lanes (s : State) : (withdrawalPass s).st.lanes = s.lanes := by
  dsimp only [withdrawalPass]; (repeat' split) <;> simp
@[simp] theorem withdrawalPass_sent (s : State) : (withdrawalPass s).st.sent = s.sent := by
  dsimp only [withdrawalPass]; (repeat' split) <;> simp
@[simp] theorem withdrawalPass_lout (s : State) : (withdrawalPass s).st.lout = s.lout := by
  dsimp only [withdrawalPass]; (repeat' split) <;> simp
@[simp] theorem withdrawalPass_directory (s : State) : (withdrawalPass s).st.directory = s.directory := by
  dsimp only [withdrawalPass]; (repeat' split) <;> simp
@[simp] theorem withdrawalPass_levelA (s : State) : (withdrawalPass s).st.levelA = s.levelA := by
  dsimp only [withdrawalPass]; (repeat' split) <;> simp
@[simp] theorem withdrawalPass_levelB (s : State) : (withdrawalPass s).st.levelB = s.levelB := by
  dsimp only [withdrawalPass]; (repeat' split) <;> simp
@[simp] theorem withdrawalPass_history (s : State) : (withdrawalPass s).st.history = s.history := by
  dsimp only [withdrawalPass]; (repeat' split) <;> simp
@[simp] theorem withdrawalPass_link (s : State) : (withdrawalPass s).st.link = s.link := by
  dsimp only [withdrawalPass]; (repeat' split) <;> simp
@[simp] theorem withdrawalPass_events (s : State) : (withdrawalPass s).st.events = s.events := by
  dsimp only [withdrawalPass]; (repeat' split) <;> simp
@[simp] theorem withdrawalPass_overflow (s : State) : (withdrawalPass s).st.overflow = s.overflow := by
  dsimp only [withdrawalPass]; (repeat' split) <;> simp
@[simp] theorem withdrawalPass_capture (s : State) : (withdrawalPass s).st.capture = s.capture := by
  dsimp only [withdrawalPass]; (repeat' split) <;> simp
@[simp] theorem withdrawalPass_output (s : State) : (withdrawalPass s).st.output = s.output := by
  dsimp only [withdrawalPass]; (repeat' split) <;> simp
@[simp] theorem withdrawalPass_position (s : State) : (withdrawalPass s).st.position = s.position := by
  dsimp only [withdrawalPass]; (repeat' split) <;> simp
@[simp] theorem withdrawalPass_adout (s : State) : (withdrawalPass s).st.adout = s.adout := by
  dsimp only [withdrawalPass]; (repeat' split) <;> simp
@[simp] theorem withdrawalPass_freeCount (s : State) : (withdrawalPass s).st.freeCount = s.freeCount := by
  dsimp only [withdrawalPass]; (repeat' split) <;> simp

@[simp] theorem measurePass_pending (s : State) : (measurePass s).st.pending = s.pending := by
  simp [measurePass]
@[simp] theorem measurePass_monitor (s : State) : (measurePass s).st.monitor = s.monitor := by
  simp [measurePass]
@[simp] theorem measurePass_stationNumber (s : State) : (measurePass s).st.stationNumber = s.stationNumber := by
  simp [measurePass]
@[simp] theorem measurePass_sequence (s : State) : (measurePass s).st.sequence = s.sequence := by
  simp [measurePass]
@[simp] theorem measurePass_station (s : State) : (measurePass s).st.station = s.station := by
  simp [measurePass]
@[simp] theorem measurePass_echoMismatch (s : State) : (measurePass s).st.echoMismatch = s.echoMismatch := by
  simp [measurePass]
@[simp] theorem measurePass_resetCause (s : State) : (measurePass s).st.resetCause = s.resetCause := by
  simp [measurePass]
@[simp] theorem measurePass_resets (s : State) : (measurePass s).st.resets = s.resets := by
  simp [measurePass]
@[simp] theorem measurePass_lanes (s : State) : (measurePass s).st.lanes = s.lanes := by
  simp [measurePass]
@[simp] theorem measurePass_sent (s : State) : (measurePass s).st.sent = s.sent := by
  simp [measurePass]
@[simp] theorem measurePass_lout (s : State) : (measurePass s).st.lout = s.lout := by
  simp [measurePass]
@[simp] theorem measurePass_directory (s : State) : (measurePass s).st.directory = s.directory := by
  simp [measurePass]
@[simp] theorem measurePass_levelA (s : State) : (measurePass s).st.levelA = s.levelA := by
  simp [measurePass]
@[simp] theorem measurePass_levelB (s : State) : (measurePass s).st.levelB = s.levelB := by
  simp [measurePass]
@[simp] theorem measurePass_mixes (s : State) : (measurePass s).st.mixes = s.mixes := by
  simp [measurePass]
@[simp] theorem measurePass_history (s : State) : (measurePass s).st.history = s.history := by
  simp [measurePass]
@[simp] theorem measurePass_link (s : State) : (measurePass s).st.link = s.link := by
  simp [measurePass]
@[simp] theorem measurePass_events (s : State) : (measurePass s).st.events = s.events := by
  simp [measurePass]
@[simp] theorem measurePass_overflow (s : State) : (measurePass s).st.overflow = s.overflow := by
  simp [measurePass]
@[simp] theorem measurePass_capture (s : State) : (measurePass s).st.capture = s.capture := by
  simp [measurePass]
@[simp] theorem measurePass_output (s : State) : (measurePass s).st.output = s.output := by
  simp [measurePass]
@[simp] theorem measurePass_position (s : State) : (measurePass s).st.position = s.position := by
  simp [measurePass]
@[simp] theorem measurePass_adout (s : State) : (measurePass s).st.adout = s.adout := by
  simp [measurePass]
@[simp] theorem measurePass_freeCount (s : State) : (measurePass s).st.freeCount = s.freeCount := by
  simp [measurePass]

@[simp] theorem statusPass_pending (s : State) : (statusPass s).st.pending = s.pending := by
  simp [statusPass]
@[simp] theorem statusPass_monitor (s : State) : (statusPass s).st.monitor = s.monitor := by
  simp [statusPass]
@[simp] theorem statusPass_stationNumber (s : State) : (statusPass s).st.stationNumber = s.stationNumber := by
  simp [statusPass]
@[simp] theorem statusPass_sequence (s : State) : (statusPass s).st.sequence = s.sequence := by
  simp [statusPass]
@[simp] theorem statusPass_station (s : State) : (statusPass s).st.station = s.station := by
  simp [statusPass]
@[simp] theorem statusPass_echoMismatch (s : State) : (statusPass s).st.echoMismatch = s.echoMismatch := by
  simp [statusPass]
@[simp] theorem statusPass_resetCause (s : State) : (statusPass s).st.resetCause = s.resetCause := by
  simp [statusPass]
@[simp] theorem statusPass_resets (s : State) : (statusPass s).st.resets = s.resets := by
  simp [statusPass]
@[simp] theorem statusPass_lanes (s : State) : (statusPass s).st.lanes = s.lanes := by
  simp [statusPass]
@[simp] theorem statusPass_sent (s : State) : (statusPass s).st.sent = s.sent := by
  simp [statusPass]
@[simp] theorem statusPass_lout (s : State) : (statusPass s).st.lout = s.lout := by
  simp [statusPass]
@[simp] theorem statusPass_directory (s : State) : (statusPass s).st.directory = s.directory := by
  simp [statusPass]
@[simp] theorem statusPass_ports (s : State) : (statusPass s).st.ports = s.ports := by
  simp [statusPass]
@[simp] theorem statusPass_levelA (s : State) : (statusPass s).st.levelA = s.levelA := by
  simp [statusPass]
@[simp] theorem statusPass_levelB (s : State) : (statusPass s).st.levelB = s.levelB := by
  simp [statusPass]
@[simp] theorem statusPass_history (s : State) : (statusPass s).st.history = s.history := by
  simp [statusPass]
@[simp] theorem statusPass_link (s : State) : (statusPass s).st.link = s.link := by
  simp [statusPass]
@[simp] theorem statusPass_events (s : State) : (statusPass s).st.events = s.events := by
  simp [statusPass]
@[simp] theorem statusPass_overflow (s : State) : (statusPass s).st.overflow = s.overflow := by
  simp [statusPass]
@[simp] theorem statusPass_capture (s : State) : (statusPass s).st.capture = s.capture := by
  simp [statusPass]
@[simp] theorem statusPass_output (s : State) : (statusPass s).st.output = s.output := by
  simp [statusPass]
@[simp] theorem statusPass_position (s : State) : (statusPass s).st.position = s.position := by
  simp [statusPass]
@[simp] theorem statusPass_adout (s : State) : (statusPass s).st.adout = s.adout := by
  simp [statusPass]
@[simp] theorem statusPass_freeCount (s : State) : (statusPass s).st.freeCount = s.freeCount := by
  simp [statusPass]

@[simp] theorem returnPass_pending (s : State) : (returnPass s).st.pending = s.pending := by
  simp [returnPass]
@[simp] theorem returnPass_monitor (s : State) : (returnPass s).st.monitor = s.monitor := by
  simp [returnPass]
@[simp] theorem returnPass_stationNumber (s : State) : (returnPass s).st.stationNumber = s.stationNumber := by
  simp [returnPass]
@[simp] theorem returnPass_sequence (s : State) : (returnPass s).st.sequence = s.sequence := by
  simp [returnPass]
@[simp] theorem returnPass_station (s : State) : (returnPass s).st.station = s.station := by
  simp [returnPass]
@[simp] theorem returnPass_echoMismatch (s : State) : (returnPass s).st.echoMismatch = s.echoMismatch := by
  simp [returnPass]
@[simp] theorem returnPass_resetCause (s : State) : (returnPass s).st.resetCause = s.resetCause := by
  simp [returnPass]
@[simp] theorem returnPass_resets (s : State) : (returnPass s).st.resets = s.resets := by
  simp [returnPass]
@[simp] theorem returnPass_lanes (s : State) : (returnPass s).st.lanes = s.lanes := by
  simp [returnPass]
@[simp] theorem returnPass_sent (s : State) : (returnPass s).st.sent = s.sent := by
  simp [returnPass]
@[simp] theorem returnPass_lout (s : State) : (returnPass s).st.lout = s.lout := by
  simp [returnPass]
@[simp] theorem returnPass_directory (s : State) : (returnPass s).st.directory = s.directory := by
  simp [returnPass]
@[simp] theorem returnPass_levelA (s : State) : (returnPass s).st.levelA = s.levelA := by
  simp [returnPass]
@[simp] theorem returnPass_levelB (s : State) : (returnPass s).st.levelB = s.levelB := by
  simp [returnPass]
@[simp] theorem returnPass_mixes (s : State) : (returnPass s).st.mixes = s.mixes := by
  simp [returnPass]
@[simp] theorem returnPass_history (s : State) : (returnPass s).st.history = s.history := by
  simp [returnPass]
@[simp] theorem returnPass_link (s : State) : (returnPass s).st.link = s.link := by
  simp [returnPass]
@[simp] theorem returnPass_events (s : State) : (returnPass s).st.events = s.events := by
  simp [returnPass]
@[simp] theorem returnPass_overflow (s : State) : (returnPass s).st.overflow = s.overflow := by
  simp [returnPass]
@[simp] theorem returnPass_capture (s : State) : (returnPass s).st.capture = s.capture := by
  simp [returnPass]
@[simp] theorem returnPass_position (s : State) : (returnPass s).st.position = s.position := by
  simp [returnPass]
@[simp] theorem returnPass_adout (s : State) : (returnPass s).st.adout = s.adout := by
  simp [returnPass]
@[simp] theorem returnPass_freeCount (s : State) : (returnPass s).st.freeCount = s.freeCount := by
  simp [returnPass]

@[simp] theorem cadencePass_pending (s : State) : (cadencePass s).st.pending = s.pending := by
  simp [cadencePass]
@[simp] theorem cadencePass_monitor (s : State) : (cadencePass s).st.monitor = s.monitor := by
  simp [cadencePass]
@[simp] theorem cadencePass_stationNumber (s : State) : (cadencePass s).st.stationNumber = s.stationNumber := by
  simp [cadencePass]
@[simp] theorem cadencePass_sequence (s : State) : (cadencePass s).st.sequence = s.sequence := by
  simp [cadencePass]
@[simp] theorem cadencePass_station (s : State) : (cadencePass s).st.station = s.station := by
  simp [cadencePass]
@[simp] theorem cadencePass_echoMismatch (s : State) : (cadencePass s).st.echoMismatch = s.echoMismatch := by
  simp [cadencePass]
@[simp] theorem cadencePass_resetCause (s : State) : (cadencePass s).st.resetCause = s.resetCause := by
  simp [cadencePass]
@[simp] theorem cadencePass_resets (s : State) : (cadencePass s).st.resets = s.resets := by
  simp [cadencePass]
@[simp] theorem cadencePass_lanes (s : State) : (cadencePass s).st.lanes = s.lanes := by
  simp [cadencePass]
@[simp] theorem cadencePass_sent (s : State) : (cadencePass s).st.sent = s.sent := by
  simp [cadencePass]
@[simp] theorem cadencePass_lout (s : State) : (cadencePass s).st.lout = s.lout := by
  simp [cadencePass]
@[simp] theorem cadencePass_directory (s : State) : (cadencePass s).st.directory = s.directory := by
  simp [cadencePass]
@[simp] theorem cadencePass_levelA (s : State) : (cadencePass s).st.levelA = s.levelA := by
  simp [cadencePass]
@[simp] theorem cadencePass_levelB (s : State) : (cadencePass s).st.levelB = s.levelB := by
  simp [cadencePass]
@[simp] theorem cadencePass_mixes (s : State) : (cadencePass s).st.mixes = s.mixes := by
  simp [cadencePass]
@[simp] theorem cadencePass_history (s : State) : (cadencePass s).st.history = s.history := by
  simp [cadencePass]
@[simp] theorem cadencePass_link (s : State) : (cadencePass s).st.link = s.link := by
  simp [cadencePass]
@[simp] theorem cadencePass_events (s : State) : (cadencePass s).st.events = s.events := by
  simp [cadencePass]
@[simp] theorem cadencePass_overflow (s : State) : (cadencePass s).st.overflow = s.overflow := by
  simp [cadencePass]
@[simp] theorem cadencePass_capture (s : State) : (cadencePass s).st.capture = s.capture := by
  simp [cadencePass]
@[simp] theorem cadencePass_output (s : State) : (cadencePass s).st.output = s.output := by
  simp [cadencePass]
@[simp] theorem cadencePass_position (s : State) : (cadencePass s).st.position = s.position := by
  simp [cadencePass]
@[simp] theorem cadencePass_adout (s : State) : (cadencePass s).st.adout = s.adout := by
  simp [cadencePass]
@[simp] theorem cadencePass_freeCount (s : State) : (cadencePass s).st.freeCount = s.freeCount := by
  simp [cadencePass]

@[simp] theorem composePass_pending (s : State) : (composePass s).st.pending = s.pending := by
  dsimp only [composePass]; (repeat' split) <;> simp
@[simp] theorem composePass_monitor (s : State) : (composePass s).st.monitor = s.monitor := by
  dsimp only [composePass]; (repeat' split) <;> simp
@[simp] theorem composePass_stationNumber (s : State) : (composePass s).st.stationNumber = s.stationNumber := by
  dsimp only [composePass]; (repeat' split) <;> simp
@[simp] theorem composePass_sequence (s : State) : (composePass s).st.sequence = s.sequence := by
  dsimp only [composePass]; (repeat' split) <;> simp
@[simp] theorem composePass_station (s : State) : (composePass s).st.station = s.station := by
  dsimp only [composePass]; (repeat' split) <;> simp
@[simp] theorem composePass_echoMismatch (s : State) : (composePass s).st.echoMismatch = s.echoMismatch := by
  dsimp only [composePass]; (repeat' split) <;> simp
@[simp] theorem composePass_resetCause (s : State) : (composePass s).st.resetCause = s.resetCause := by
  dsimp only [composePass]; (repeat' split) <;> simp
@[simp] theorem composePass_resets (s : State) : (composePass s).st.resets = s.resets := by
  dsimp only [composePass]; (repeat' split) <;> simp
@[simp] theorem composePass_lanes (s : State) : (composePass s).st.lanes = s.lanes := by
  dsimp only [composePass]; (repeat' split) <;> simp
@[simp] theorem composePass_sent (s : State) : (composePass s).st.sent = s.sent := by
  dsimp only [composePass]; (repeat' split) <;> simp
@[simp] theorem composePass_lout (s : State) : (composePass s).st.lout = s.lout := by
  dsimp only [composePass]; (repeat' split) <;> simp
@[simp] theorem composePass_directory (s : State) : (composePass s).st.directory = s.directory := by
  dsimp only [composePass]; (repeat' split) <;> simp
@[simp] theorem composePass_ports (s : State) : (composePass s).st.ports = s.ports := by
  dsimp only [composePass]; (repeat' split) <;> simp
@[simp] theorem composePass_levelA (s : State) : (composePass s).st.levelA = s.levelA := by
  dsimp only [composePass]; (repeat' split) <;> simp
@[simp] theorem composePass_levelB (s : State) : (composePass s).st.levelB = s.levelB := by
  dsimp only [composePass]; (repeat' split) <;> simp
@[simp] theorem composePass_history (s : State) : (composePass s).st.history = s.history := by
  dsimp only [composePass]; (repeat' split) <;> simp
@[simp] theorem composePass_link (s : State) : (composePass s).st.link = s.link := by
  dsimp only [composePass]; (repeat' split) <;> simp
@[simp] theorem composePass_events (s : State) : (composePass s).st.events = s.events := by
  dsimp only [composePass]; (repeat' split) <;> simp
@[simp] theorem composePass_overflow (s : State) : (composePass s).st.overflow = s.overflow := by
  dsimp only [composePass]; (repeat' split) <;> simp
@[simp] theorem composePass_capture (s : State) : (composePass s).st.capture = s.capture := by
  dsimp only [composePass]; (repeat' split) <;> simp
@[simp] theorem composePass_output (s : State) : (composePass s).st.output = s.output := by
  dsimp only [composePass]; (repeat' split) <;> simp
@[simp] theorem composePass_position (s : State) : (composePass s).st.position = s.position := by
  dsimp only [composePass]; (repeat' split) <;> simp
@[simp] theorem composePass_adout (s : State) : (composePass s).st.adout = s.adout := by
  dsimp only [composePass]; (repeat' split) <;> simp
@[simp] theorem composePass_freeCount (s : State) : (composePass s).st.freeCount = s.freeCount := by
  dsimp only [composePass]; (repeat' split) <;> simp

@[simp] theorem testPass_pending (s : State) : (testPass s).st.pending = s.pending := by
  dsimp only [testPass]; (repeat' split) <;> simp
@[simp] theorem testPass_monitor (s : State) : (testPass s).st.monitor = s.monitor := by
  dsimp only [testPass]; (repeat' split) <;> simp
@[simp] theorem testPass_stationNumber (s : State) : (testPass s).st.stationNumber = s.stationNumber := by
  dsimp only [testPass]; (repeat' split) <;> simp
@[simp] theorem testPass_sequence (s : State) : (testPass s).st.sequence = s.sequence := by
  dsimp only [testPass]; (repeat' split) <;> simp
@[simp] theorem testPass_echoMismatch (s : State) : (testPass s).st.echoMismatch = s.echoMismatch := by
  dsimp only [testPass]; (repeat' split) <;> simp
@[simp] theorem testPass_resetCause (s : State) : (testPass s).st.resetCause = s.resetCause := by
  dsimp only [testPass]; (repeat' split) <;> simp
@[simp] theorem testPass_resets (s : State) : (testPass s).st.resets = s.resets := by
  dsimp only [testPass]; (repeat' split) <;> simp
@[simp] theorem testPass_lanes (s : State) : (testPass s).st.lanes = s.lanes := by
  dsimp only [testPass]; (repeat' split) <;> simp
@[simp] theorem testPass_sent (s : State) : (testPass s).st.sent = s.sent := by
  dsimp only [testPass]; (repeat' split) <;> simp
@[simp] theorem testPass_directory (s : State) : (testPass s).st.directory = s.directory := by
  dsimp only [testPass]; (repeat' split) <;> simp
@[simp] theorem testPass_ports (s : State) : (testPass s).st.ports = s.ports := by
  dsimp only [testPass]; (repeat' split) <;> simp
@[simp] theorem testPass_levelA (s : State) : (testPass s).st.levelA = s.levelA := by
  dsimp only [testPass]; (repeat' split) <;> simp
@[simp] theorem testPass_levelB (s : State) : (testPass s).st.levelB = s.levelB := by
  dsimp only [testPass]; (repeat' split) <;> simp
@[simp] theorem testPass_mixes (s : State) : (testPass s).st.mixes = s.mixes := by
  dsimp only [testPass]; (repeat' split) <;> simp
@[simp] theorem testPass_history (s : State) : (testPass s).st.history = s.history := by
  dsimp only [testPass]; (repeat' split) <;> simp
@[simp] theorem testPass_link (s : State) : (testPass s).st.link = s.link := by
  dsimp only [testPass]; (repeat' split) <;> simp
@[simp] theorem testPass_events (s : State) : (testPass s).st.events = s.events := by
  dsimp only [testPass]; (repeat' split) <;> simp
@[simp] theorem testPass_overflow (s : State) : (testPass s).st.overflow = s.overflow := by
  dsimp only [testPass]; (repeat' split) <;> simp
@[simp] theorem testPass_capture (s : State) : (testPass s).st.capture = s.capture := by
  dsimp only [testPass]; (repeat' split) <;> simp
@[simp] theorem testPass_output (s : State) : (testPass s).st.output = s.output := by
  dsimp only [testPass]; (repeat' split) <;> simp
@[simp] theorem testPass_position (s : State) : (testPass s).st.position = s.position := by
  dsimp only [testPass]; (repeat' split) <;> simp
@[simp] theorem testPass_adout (s : State) : (testPass s).st.adout = s.adout := by
  dsimp only [testPass]; (repeat' split) <;> simp
@[simp] theorem testPass_freeCount (s : State) : (testPass s).st.freeCount = s.freeCount := by
  dsimp only [testPass]; (repeat' split) <;> simp

@[simp] theorem transmitPass_pending (s : State) : (transmitPass s).st.pending = s.pending := by
  dsimp only [transmitPass]; (repeat' split) <;> simp
@[simp] theorem transmitPass_monitor (s : State) : (transmitPass s).st.monitor = s.monitor := by
  dsimp only [transmitPass]; (repeat' split) <;> simp
@[simp] theorem transmitPass_stationNumber (s : State) : (transmitPass s).st.stationNumber = s.stationNumber := by
  dsimp only [transmitPass]; (repeat' split) <;> simp
@[simp] theorem transmitPass_echoMismatch (s : State) : (transmitPass s).st.echoMismatch = s.echoMismatch := by
  dsimp only [transmitPass]; (repeat' split) <;> simp
@[simp] theorem transmitPass_resetCause (s : State) : (transmitPass s).st.resetCause = s.resetCause := by
  dsimp only [transmitPass]; (repeat' split) <;> simp
@[simp] theorem transmitPass_resets (s : State) : (transmitPass s).st.resets = s.resets := by
  dsimp only [transmitPass]; (repeat' split) <;> simp
@[simp] theorem transmitPass_lanes (s : State) : (transmitPass s).st.lanes = s.lanes := by
  dsimp only [transmitPass]; (repeat' split) <;> simp
@[simp] theorem transmitPass_directory (s : State) : (transmitPass s).st.directory = s.directory := by
  dsimp only [transmitPass]; (repeat' split) <;> simp
@[simp] theorem transmitPass_ports (s : State) : (transmitPass s).st.ports = s.ports := by
  dsimp only [transmitPass]; (repeat' split) <;> simp
@[simp] theorem transmitPass_levelA (s : State) : (transmitPass s).st.levelA = s.levelA := by
  dsimp only [transmitPass]; (repeat' split) <;> simp
@[simp] theorem transmitPass_levelB (s : State) : (transmitPass s).st.levelB = s.levelB := by
  dsimp only [transmitPass]; (repeat' split) <;> simp
@[simp] theorem transmitPass_mixes (s : State) : (transmitPass s).st.mixes = s.mixes := by
  dsimp only [transmitPass]; (repeat' split) <;> simp
@[simp] theorem transmitPass_link (s : State) : (transmitPass s).st.link = s.link := by
  dsimp only [transmitPass]; (repeat' split) <;> simp
@[simp] theorem transmitPass_events (s : State) : (transmitPass s).st.events = s.events := by
  dsimp only [transmitPass]; (repeat' split) <;> simp
@[simp] theorem transmitPass_overflow (s : State) : (transmitPass s).st.overflow = s.overflow := by
  dsimp only [transmitPass]; (repeat' split) <;> simp
@[simp] theorem transmitPass_capture (s : State) : (transmitPass s).st.capture = s.capture := by
  dsimp only [transmitPass]; (repeat' split) <;> simp
@[simp] theorem transmitPass_output (s : State) : (transmitPass s).st.output = s.output := by
  dsimp only [transmitPass]; (repeat' split) <;> simp
@[simp] theorem transmitPass_position (s : State) : (transmitPass s).st.position = s.position := by
  dsimp only [transmitPass]; (repeat' split) <;> simp
@[simp] theorem transmitPass_adout (s : State) : (transmitPass s).st.adout = s.adout := by
  dsimp only [transmitPass]; (repeat' split) <;> simp
@[simp] theorem transmitPass_freeCount (s : State) : (transmitPass s).st.freeCount = s.freeCount := by
  dsimp only [transmitPass]; (repeat' split) <;> simp

@[simp] theorem closeBlock_pending (s : State) : (closeBlock s).st.pending = s.pending := by
  simp [closeBlock]
@[simp] theorem closeBlock_monitor (s : State) : (closeBlock s).st.monitor = s.monitor := by
  simp [closeBlock]
@[simp] theorem closeBlock_stationNumber (s : State) : (closeBlock s).st.stationNumber = s.stationNumber := by
  simp [closeBlock]
@[simp] theorem closeBlock_sequence (s : State) : (closeBlock s).st.sequence = s.sequence := by
  simp [closeBlock]
@[simp] theorem closeBlock_station (s : State) : (closeBlock s).st.station = s.station := by
  simp [closeBlock]
@[simp] theorem closeBlock_echoMismatch (s : State) : (closeBlock s).st.echoMismatch = s.echoMismatch := by
  simp [closeBlock]
@[simp] theorem closeBlock_resetCause (s : State) : (closeBlock s).st.resetCause = s.resetCause := by
  simp [closeBlock]
@[simp] theorem closeBlock_resets (s : State) : (closeBlock s).st.resets = s.resets := by
  simp [closeBlock]
@[simp] theorem closeBlock_sent (s : State) : (closeBlock s).st.sent = s.sent := by
  simp [closeBlock]
@[simp] theorem closeBlock_lout (s : State) : (closeBlock s).st.lout = s.lout := by
  simp [closeBlock]
@[simp] theorem closeBlock_directory (s : State) : (closeBlock s).st.directory = s.directory := by
  simp [closeBlock]
@[simp] theorem closeBlock_ports (s : State) : (closeBlock s).st.ports = s.ports := by
  simp [closeBlock]
@[simp] theorem closeBlock_levelA (s : State) : (closeBlock s).st.levelA = s.levelA := by
  simp [closeBlock]
@[simp] theorem closeBlock_levelB (s : State) : (closeBlock s).st.levelB = s.levelB := by
  simp [closeBlock]
@[simp] theorem closeBlock_mixes (s : State) : (closeBlock s).st.mixes = s.mixes := by
  simp [closeBlock]
@[simp] theorem closeBlock_history (s : State) : (closeBlock s).st.history = s.history := by
  simp [closeBlock]
@[simp] theorem closeBlock_link (s : State) : (closeBlock s).st.link = s.link := by
  simp [closeBlock]
@[simp] theorem closeBlock_events (s : State) : (closeBlock s).st.events = s.events := by
  simp [closeBlock]
@[simp] theorem closeBlock_overflow (s : State) : (closeBlock s).st.overflow = s.overflow := by
  simp [closeBlock]
@[simp] theorem closeBlock_output (s : State) : (closeBlock s).st.output = s.output := by
  simp [closeBlock]
@[simp] theorem closeBlock_adout (s : State) : (closeBlock s).st.adout = s.adout := by
  simp [closeBlock]
@[simp] theorem closeBlock_freeCount (s : State) : (closeBlock s).st.freeCount = s.freeCount := by
  simp [closeBlock]

end Sys2Proof.Machine
end

