-- ==== Sys2Proof/Laws/Taken.lean ====
section
/-! SUPPORT. A taken strobe (R1), pass by pass: the states its passes leave, what each field is after it, and the
events it tells. -/

namespace Sys2Proof.Machine

/-! ## The states that the passes leave -/

/-- The strobe noted by the monitor (R2). -/
def State.noted (s : State) (inp : StrobeInput) : State := { s with monitor := s.monitor.strobe inp.instant }

/-- After the fault inputs (R59 to R61). -/
def State.faulted (s : State) (inp : StrobeInput) : State :=
  (faultPass .b inp.faultB (faultPass .a inp.faultA (s.noted inp)).st).st

/-- After the echo check (R16). -/
def State.echoed (s : State) (inp : StrobeInput) : State := (echoPass s.verdict (s.faulted inp)).st

/-- After the listen window (R19). -/
def State.listened (s : State) (inp : StrobeInput) : State := (listenPass (s.echoed inp)).st

/-- After the end of CLOSING (R147). -/
def State.closed (s : State) (inp : StrobeInput) : State := (closedPass (s.listened inp)).st

/-- After the lane receive states (R11 to R14). -/
def State.laned (s : State) (inp : StrobeInput) : State := (lanePass (s.blockFrames s.verdict) (s.closed inp)).st

/-- After the directory (R25 to R28). -/
def State.filed (s : State) (inp : StrobeInput) : State :=
  (directoryPass (s.blockFrames s.verdict) (s.absentLanes (s.blockFrames s.verdict)) (s.laned inp)).st

/-- After the claim update (R90). -/
def State.claimed (s : State) (inp : StrobeInput) : State :=
  (claimPass (s.blockFrames s.verdict) (s.absentLanes (s.blockFrames s.verdict)) (s.filed inp)).st

/-- After the withdrawal check (R144). -/
def State.checked (s : State) (inp : StrobeInput) : State := (withdrawalPass (s.claimed inp)).st

/-- After the level monitor (R65). -/
def State.measured (s : State) (inp : StrobeInput) : State := (measurePass (s.checked inp)).st

/-- After the claim statuses (R85). -/
def State.statused (s : State) (inp : StrobeInput) : State := (statusPass (s.measured inp)).st

/-- After the returns (R117). -/
def State.returned (s : State) (inp : StrobeInput) : State := (returnPass (s.statused inp)).st

/-- After the cadence (R136). -/
def State.cadenced (s : State) (inp : StrobeInput) : State := (cadencePass (s.returned inp)).st

/-- After composition (R78). -/
def State.composed (s : State) (inp : StrobeInput) : State := (composePass (s.cadenced inp)).st

/-- After the lane test's judgement (R153). -/
def State.judged (s : State) (inp : StrobeInput) : State := (testPass (s.composed inp)).st

/-- After the frame (R6). -/
def State.transmitted (s : State) (inp : StrobeInput) : State := (transmitPass (s.judged inp)).st

/-- The chains of events of a taken strobe, pass by pass. -/
def State.strobeChains (s : State) (inp : StrobeInput) : List (List (List Event)) :=
  let frames := s.blockFrames s.verdict
  let absent := s.absentLanes frames
  [ (monitorPass inp.instant s).chains
  , (faultPass .a inp.faultA (s.noted inp)).chains
  , (faultPass .b inp.faultB (faultPass .a inp.faultA (s.noted inp)).st).chains
  , (echoPass s.verdict (s.faulted inp)).chains
  , (listenPass (s.echoed inp)).chains
  , (closedPass (s.listened inp)).chains
  , (lanePass frames (s.closed inp)).chains
  , (claimPass frames absent (s.filed inp)).chains
  , (withdrawalPass (s.claimed inp)).chains
  , (measurePass (s.checked inp)).chains
  , (statusPass (s.measured inp)).chains
  , (returnPass (s.statused inp)).chains
  , (testPass (s.composed inp)).chains ]

/-! ## The taken strobe -/

theorem exec_blockStrobe (s : State) (inp : StrobeInput) : exec (.blockStrobe inp) s = .next (s.afterStrobe inp) := rfl

theorem monitorPass_st (s : State) (instant : Nat) (h : s.station ≠ .untimed) :
    (monitorPass instant s).st = { s with monitor := s.monitor.strobe instant } := by
  simp only [monitorPass, if_neg h]
  split <;> rfl

theorem strobeArrives_taken (s : State) (inp : StrobeInput) (h : s.station ≠ .untimed) :
    strobeArrives inp s = (monitorPass inp.instant s).andThen (strobeWork inp) := by
  have hm := congrArg State.station (monitorPass_st s inp.instant h)
  simp only [strobeArrives, if_neg (hm ▸ h)]

theorem transmitPass_chains (s : State) : (transmitPass s).chains = [] := by
  unfold transmitPass; split <;> rfl

theorem cadencePass_chains (s : State) : (cadencePass s).chains = [] := rfl

theorem directoryPass_chains (frames : Vector BlockFrame 16) (absent : Vector Bool 16) (s : State) :
    (directoryPass frames absent s).chains = [] := rfl

theorem composePass_chains (s : State) : (composePass s).chains = [] := by
  unfold composePass; split <;> rfl

/-- The work of a taken strobe leaves the state that its last pass leaves. -/
theorem strobeWork_st (s : State) (inp : StrobeInput) :
    (strobeWork inp (s.noted inp)).st = (closeBlock (s.transmitted inp)).st := by
  have hv : (s.noted inp).verdict = s.verdict := rfl
  have hf : (s.noted inp).blockFrames s.verdict = s.blockFrames s.verdict := rfl
  have ha : (s.noted inp).absentLanes (s.blockFrames s.verdict) = s.absentLanes (s.blockFrames s.verdict) := rfl
  simp only [strobeWork, Work.andThen_st, Work.silent_st, hv, hf, ha, State.transmitted, State.judged, State.composed,
    State.cadenced, State.returned, State.statused, State.measured, State.checked, State.claimed, State.filed,
    State.laned, State.closed, State.listened, State.echoed, State.faulted]

/-- The events of the work of a taken strobe. -/
theorem strobeWork_chains (s : State) (inp : StrobeInput) :
    (monitorPass inp.instant s).chains ++ (strobeWork inp (s.noted inp)).chains = (s.strobeChains inp).flatten := by
  have hv : (s.noted inp).verdict = s.verdict := rfl
  have hf : (s.noted inp).blockFrames s.verdict = s.blockFrames s.verdict := rfl
  have ha : (s.noted inp).absentLanes (s.blockFrames s.verdict) = s.absentLanes (s.blockFrames s.verdict) := rfl
  simp only [strobeWork, Work.andThen_chains, Work.andThen_st, Work.silent_st, Work.silent_chains, hv, hf, ha,
    transmitPass_chains, composePass_chains, closeBlock, cadencePass_chains, directoryPass_chains, List.append_nil,
    List.nil_append, List.append_assoc, State.strobeChains, List.flatten_cons, List.flatten_nil,
    State.composed, State.cadenced, State.returned, State.statused, State.measured, State.checked, State.claimed,
    State.filed, State.laned, State.closed, State.listened, State.echoed, State.faulted]

/-- A taken strobe is its passes, and then the raising of their events. -/
theorem State.afterStrobe_taken (s : State) (inp : StrobeInput) (h : s.takesStrobes) :
    s.afterStrobe inp = (closeBlock (s.transmitted inp)).st.raiseAll (s.strobeChains inp).flatten := by
  have hn : (monitorPass inp.instant s).st = s.noted inp := monitorPass_st s _ h.2
  have ha := strobeArrives_taken s inp h.2
  have hs : (strobeArrives inp s).st = (closeBlock (s.transmitted inp)).st := by
    rw [ha, Work.andThen_st, hn, strobeWork_st]
  have hc : (strobeArrives inp s).chains = (s.strobeChains inp).flatten := by
    rw [ha, Work.andThen_chains, hn, strobeWork_chains]
  unfold State.afterStrobe
  rw [h.1, hs, hc]
  rfl

/-- An event of one of the passes is told (R168, R169). -/
theorem State.afterStrobe_told (s : State) (inp : StrobeInput) (h : s.takesStrobes) (e : Event)
    (he : ∃ pass ∈ s.strobeChains inp, ∃ chain ∈ pass, e ∈ chain) : (s.afterStrobe inp).told e := by
  rw [s.afterStrobe_taken inp h]
  apply State.raiseAll_told
  obtain ⟨pass, hp, chain, hc, he⟩ := he
  simp only [List.mem_flatten]
  exact ⟨chain, ⟨pass, hp, hc⟩, he⟩

/-! ## Each field after each pass, traced back to the pass that wrote it last -/

@[simp] theorem State.noted_pending (s : State) (inp : StrobeInput) : (s.noted inp).pending = s.pending := rfl
@[simp] theorem State.noted_stationNumber (s : State) (inp : StrobeInput) : (s.noted inp).stationNumber = s.stationNumber := rfl
@[simp] theorem State.noted_sequence (s : State) (inp : StrobeInput) : (s.noted inp).sequence = s.sequence := rfl
@[simp] theorem State.noted_station (s : State) (inp : StrobeInput) : (s.noted inp).station = s.station := rfl
@[simp] theorem State.noted_echoMismatch (s : State) (inp : StrobeInput) : (s.noted inp).echoMismatch = s.echoMismatch := rfl
@[simp] theorem State.noted_resetCause (s : State) (inp : StrobeInput) : (s.noted inp).resetCause = s.resetCause := rfl
@[simp] theorem State.noted_resets (s : State) (inp : StrobeInput) : (s.noted inp).resets = s.resets := rfl
@[simp] theorem State.noted_lanes (s : State) (inp : StrobeInput) : (s.noted inp).lanes = s.lanes := rfl
@[simp] theorem State.noted_sent (s : State) (inp : StrobeInput) : (s.noted inp).sent = s.sent := rfl
@[simp] theorem State.noted_lout (s : State) (inp : StrobeInput) : (s.noted inp).lout = s.lout := rfl
@[simp] theorem State.noted_directory (s : State) (inp : StrobeInput) : (s.noted inp).directory = s.directory := rfl
@[simp] theorem State.noted_ports (s : State) (inp : StrobeInput) : (s.noted inp).ports = s.ports := rfl
@[simp] theorem State.noted_levelA (s : State) (inp : StrobeInput) : (s.noted inp).levelA = s.levelA := rfl
@[simp] theorem State.noted_levelB (s : State) (inp : StrobeInput) : (s.noted inp).levelB = s.levelB := rfl
@[simp] theorem State.noted_mixes (s : State) (inp : StrobeInput) : (s.noted inp).mixes = s.mixes := rfl
@[simp] theorem State.noted_history (s : State) (inp : StrobeInput) : (s.noted inp).history = s.history := rfl
@[simp] theorem State.noted_link (s : State) (inp : StrobeInput) : (s.noted inp).link = s.link := rfl
@[simp] theorem State.noted_events (s : State) (inp : StrobeInput) : (s.noted inp).events = s.events := rfl
@[simp] theorem State.noted_overflow (s : State) (inp : StrobeInput) : (s.noted inp).overflow = s.overflow := rfl
@[simp] theorem State.noted_capture (s : State) (inp : StrobeInput) : (s.noted inp).capture = s.capture := rfl
@[simp] theorem State.noted_output (s : State) (inp : StrobeInput) : (s.noted inp).output = s.output := rfl
@[simp] theorem State.noted_position (s : State) (inp : StrobeInput) : (s.noted inp).position = s.position := rfl
@[simp] theorem State.noted_adout (s : State) (inp : StrobeInput) : (s.noted inp).adout = s.adout := rfl
@[simp] theorem State.noted_freeCount (s : State) (inp : StrobeInput) : (s.noted inp).freeCount = s.freeCount := rfl

@[simp] theorem State.faulted_pending (s : State) (inp : StrobeInput) : (s.faulted inp).pending = s.pending := by
  simp only [State.faulted, faultPass_pending, State.noted]
@[simp] theorem State.faulted_monitor (s : State) (inp : StrobeInput) : (s.faulted inp).monitor = (s.noted inp).monitor := by
  simp only [State.faulted, faultPass_monitor, State.noted]
@[simp] theorem State.faulted_stationNumber (s : State) (inp : StrobeInput) : (s.faulted inp).stationNumber = s.stationNumber := by
  simp only [State.faulted, faultPass_stationNumber, State.noted]
@[simp] theorem State.faulted_sequence (s : State) (inp : StrobeInput) : (s.faulted inp).sequence = s.sequence := by
  simp only [State.faulted, faultPass_sequence, State.noted]
@[simp] theorem State.faulted_station (s : State) (inp : StrobeInput) : (s.faulted inp).station = s.station := by
  simp only [State.faulted, faultPass_station, State.noted]
@[simp] theorem State.faulted_echoMismatch (s : State) (inp : StrobeInput) : (s.faulted inp).echoMismatch = s.echoMismatch := by
  simp only [State.faulted, faultPass_echoMismatch, State.noted]
@[simp] theorem State.faulted_resetCause (s : State) (inp : StrobeInput) : (s.faulted inp).resetCause = s.resetCause := by
  simp only [State.faulted, faultPass_resetCause, State.noted]
@[simp] theorem State.faulted_resets (s : State) (inp : StrobeInput) : (s.faulted inp).resets = s.resets := by
  simp only [State.faulted, faultPass_resets, State.noted]
@[simp] theorem State.faulted_lanes (s : State) (inp : StrobeInput) : (s.faulted inp).lanes = s.lanes := by
  simp only [State.faulted, faultPass_lanes, State.noted]
@[simp] theorem State.faulted_sent (s : State) (inp : StrobeInput) : (s.faulted inp).sent = s.sent := by
  simp only [State.faulted, faultPass_sent, State.noted]
@[simp] theorem State.faulted_lout (s : State) (inp : StrobeInput) : (s.faulted inp).lout = s.lout := by
  simp only [State.faulted, faultPass_lout, State.noted]
@[simp] theorem State.faulted_directory (s : State) (inp : StrobeInput) : (s.faulted inp).directory = s.directory := by
  simp only [State.faulted, faultPass_directory, State.noted]
@[simp] theorem State.faulted_mixes (s : State) (inp : StrobeInput) : (s.faulted inp).mixes = s.mixes := by
  simp only [State.faulted, faultPass_mixes, State.noted]
@[simp] theorem State.faulted_history (s : State) (inp : StrobeInput) : (s.faulted inp).history = s.history := by
  simp only [State.faulted, faultPass_history, State.noted]
@[simp] theorem State.faulted_link (s : State) (inp : StrobeInput) : (s.faulted inp).link = s.link := by
  simp only [State.faulted, faultPass_link, State.noted]
@[simp] theorem State.faulted_events (s : State) (inp : StrobeInput) : (s.faulted inp).events = s.events := by
  simp only [State.faulted, faultPass_events, State.noted]
@[simp] theorem State.faulted_overflow (s : State) (inp : StrobeInput) : (s.faulted inp).overflow = s.overflow := by
  simp only [State.faulted, faultPass_overflow, State.noted]
@[simp] theorem State.faulted_capture (s : State) (inp : StrobeInput) : (s.faulted inp).capture = s.capture := by
  simp only [State.faulted, faultPass_capture, State.noted]
@[simp] theorem State.faulted_output (s : State) (inp : StrobeInput) : (s.faulted inp).output = s.output := by
  simp only [State.faulted, faultPass_output, State.noted]
@[simp] theorem State.faulted_position (s : State) (inp : StrobeInput) : (s.faulted inp).position = s.position := by
  simp only [State.faulted, faultPass_position, State.noted]
@[simp] theorem State.faulted_adout (s : State) (inp : StrobeInput) : (s.faulted inp).adout = s.adout := by
  simp only [State.faulted, faultPass_adout, State.noted]
@[simp] theorem State.faulted_freeCount (s : State) (inp : StrobeInput) : (s.faulted inp).freeCount = s.freeCount := by
  simp only [State.faulted, faultPass_freeCount, State.noted]

@[simp] theorem State.echoed_pending (s : State) (inp : StrobeInput) : (s.echoed inp).pending = s.pending := by
  rw [State.echoed, echoPass_pending, State.faulted_pending]
@[simp] theorem State.echoed_monitor (s : State) (inp : StrobeInput) : (s.echoed inp).monitor = (s.noted inp).monitor := by
  rw [State.echoed, echoPass_monitor, State.faulted_monitor]
@[simp] theorem State.echoed_stationNumber (s : State) (inp : StrobeInput) : (s.echoed inp).stationNumber = s.stationNumber := by
  rw [State.echoed, echoPass_stationNumber, State.faulted_stationNumber]
@[simp] theorem State.echoed_sequence (s : State) (inp : StrobeInput) : (s.echoed inp).sequence = s.sequence := by
  rw [State.echoed, echoPass_sequence, State.faulted_sequence]
@[simp] theorem State.echoed_resetCause (s : State) (inp : StrobeInput) : (s.echoed inp).resetCause = s.resetCause := by
  rw [State.echoed, echoPass_resetCause, State.faulted_resetCause]
@[simp] theorem State.echoed_resets (s : State) (inp : StrobeInput) : (s.echoed inp).resets = s.resets := by
  rw [State.echoed, echoPass_resets, State.faulted_resets]
@[simp] theorem State.echoed_lanes (s : State) (inp : StrobeInput) : (s.echoed inp).lanes = s.lanes := by
  rw [State.echoed, echoPass_lanes, State.faulted_lanes]
@[simp] theorem State.echoed_sent (s : State) (inp : StrobeInput) : (s.echoed inp).sent = s.sent := by
  rw [State.echoed, echoPass_sent, State.faulted_sent]
@[simp] theorem State.echoed_directory (s : State) (inp : StrobeInput) : (s.echoed inp).directory = s.directory := by
  rw [State.echoed, echoPass_directory, State.faulted_directory]
@[simp] theorem State.echoed_levelA (s : State) (inp : StrobeInput) : (s.echoed inp).levelA = (s.faulted inp).levelA := by
  rw [State.echoed, echoPass_levelA]
@[simp] theorem State.echoed_levelB (s : State) (inp : StrobeInput) : (s.echoed inp).levelB = (s.faulted inp).levelB := by
  rw [State.echoed, echoPass_levelB]
@[simp] theorem State.echoed_mixes (s : State) (inp : StrobeInput) : (s.echoed inp).mixes = s.mixes := by
  rw [State.echoed, echoPass_mixes, State.faulted_mixes]
@[simp] theorem State.echoed_history (s : State) (inp : StrobeInput) : (s.echoed inp).history = s.history := by
  rw [State.echoed, echoPass_history, State.faulted_history]
@[simp] theorem State.echoed_link (s : State) (inp : StrobeInput) : (s.echoed inp).link = s.link := by
  rw [State.echoed, echoPass_link, State.faulted_link]
@[simp] theorem State.echoed_events (s : State) (inp : StrobeInput) : (s.echoed inp).events = s.events := by
  rw [State.echoed, echoPass_events, State.faulted_events]
@[simp] theorem State.echoed_overflow (s : State) (inp : StrobeInput) : (s.echoed inp).overflow = s.overflow := by
  rw [State.echoed, echoPass_overflow, State.faulted_overflow]
@[simp] theorem State.echoed_capture (s : State) (inp : StrobeInput) : (s.echoed inp).capture = s.capture := by
  rw [State.echoed, echoPass_capture, State.faulted_capture]
@[simp] theorem State.echoed_output (s : State) (inp : StrobeInput) : (s.echoed inp).output = s.output := by
  rw [State.echoed, echoPass_output, State.faulted_output]
@[simp] theorem State.echoed_position (s : State) (inp : StrobeInput) : (s.echoed inp).position = s.position := by
  rw [State.echoed, echoPass_position, State.faulted_position]
@[simp] theorem State.echoed_adout (s : State) (inp : StrobeInput) : (s.echoed inp).adout = s.adout := by
  rw [State.echoed, echoPass_adout, State.faulted_adout]
@[simp] theorem State.echoed_freeCount (s : State) (inp : StrobeInput) : (s.echoed inp).freeCount = s.freeCount := by
  rw [State.echoed, echoPass_freeCount, State.faulted_freeCount]

@[simp] theorem State.listened_pending (s : State) (inp : StrobeInput) : (s.listened inp).pending = s.pending := by
  rw [State.listened, listenPass_pending, State.echoed_pending]
@[simp] theorem State.listened_monitor (s : State) (inp : StrobeInput) : (s.listened inp).monitor = (s.noted inp).monitor := by
  rw [State.listened, listenPass_monitor, State.echoed_monitor]
@[simp] theorem State.listened_stationNumber (s : State) (inp : StrobeInput) : (s.listened inp).stationNumber = s.stationNumber := by
  rw [State.listened, listenPass_stationNumber, State.echoed_stationNumber]
@[simp] theorem State.listened_sequence (s : State) (inp : StrobeInput) : (s.listened inp).sequence = s.sequence := by
  rw [State.listened, listenPass_sequence, State.echoed_sequence]
@[simp] theorem State.listened_echoMismatch (s : State) (inp : StrobeInput) : (s.listened inp).echoMismatch = (s.echoed inp).echoMismatch := by
  rw [State.listened, listenPass_echoMismatch]
@[simp] theorem State.listened_resetCause (s : State) (inp : StrobeInput) : (s.listened inp).resetCause = s.resetCause := by
  rw [State.listened, listenPass_resetCause, State.echoed_resetCause]
@[simp] theorem State.listened_resets (s : State) (inp : StrobeInput) : (s.listened inp).resets = s.resets := by
  rw [State.listened, listenPass_resets, State.echoed_resets]
@[simp] theorem State.listened_lanes (s : State) (inp : StrobeInput) : (s.listened inp).lanes = s.lanes := by
  rw [State.listened, listenPass_lanes, State.echoed_lanes]
@[simp] theorem State.listened_sent (s : State) (inp : StrobeInput) : (s.listened inp).sent = s.sent := by
  rw [State.listened, listenPass_sent, State.echoed_sent]
@[simp] theorem State.listened_directory (s : State) (inp : StrobeInput) : (s.listened inp).directory = s.directory := by
  rw [State.listened, listenPass_directory, State.echoed_directory]
@[simp] theorem State.listened_levelA (s : State) (inp : StrobeInput) : (s.listened inp).levelA = (s.faulted inp).levelA := by
  rw [State.listened, listenPass_levelA, State.echoed_levelA]
@[simp] theorem State.listened_levelB (s : State) (inp : StrobeInput) : (s.listened inp).levelB = (s.faulted inp).levelB := by
  rw [State.listened, listenPass_levelB, State.echoed_levelB]
@[simp] theorem State.listened_mixes (s : State) (inp : StrobeInput) : (s.listened inp).mixes = s.mixes := by
  rw [State.listened, listenPass_mixes, State.echoed_mixes]
@[simp] theorem State.listened_history (s : State) (inp : StrobeInput) : (s.listened inp).history = s.history := by
  rw [State.listened, listenPass_history, State.echoed_history]
@[simp] theorem State.listened_link (s : State) (inp : StrobeInput) : (s.listened inp).link = s.link := by
  rw [State.listened, listenPass_link, State.echoed_link]
@[simp] theorem State.listened_events (s : State) (inp : StrobeInput) : (s.listened inp).events = s.events := by
  rw [State.listened, listenPass_events, State.echoed_events]
@[simp] theorem State.listened_overflow (s : State) (inp : StrobeInput) : (s.listened inp).overflow = s.overflow := by
  rw [State.listened, listenPass_overflow, State.echoed_overflow]
@[simp] theorem State.listened_capture (s : State) (inp : StrobeInput) : (s.listened inp).capture = s.capture := by
  rw [State.listened, listenPass_capture, State.echoed_capture]
@[simp] theorem State.listened_output (s : State) (inp : StrobeInput) : (s.listened inp).output = s.output := by
  rw [State.listened, listenPass_output, State.echoed_output]
@[simp] theorem State.listened_position (s : State) (inp : StrobeInput) : (s.listened inp).position = s.position := by
  rw [State.listened, listenPass_position, State.echoed_position]
@[simp] theorem State.listened_adout (s : State) (inp : StrobeInput) : (s.listened inp).adout = s.adout := by
  rw [State.listened, listenPass_adout, State.echoed_adout]
@[simp] theorem State.listened_freeCount (s : State) (inp : StrobeInput) : (s.listened inp).freeCount = s.freeCount := by
  rw [State.listened, listenPass_freeCount, State.echoed_freeCount]

@[simp] theorem State.closed_pending (s : State) (inp : StrobeInput) : (s.closed inp).pending = s.pending := by
  rw [State.closed, closedPass_pending, State.listened_pending]
@[simp] theorem State.closed_monitor (s : State) (inp : StrobeInput) : (s.closed inp).monitor = (s.noted inp).monitor := by
  rw [State.closed, closedPass_monitor, State.listened_monitor]
@[simp] theorem State.closed_stationNumber (s : State) (inp : StrobeInput) : (s.closed inp).stationNumber = s.stationNumber := by
  rw [State.closed, closedPass_stationNumber, State.listened_stationNumber]
@[simp] theorem State.closed_sequence (s : State) (inp : StrobeInput) : (s.closed inp).sequence = s.sequence := by
  rw [State.closed, closedPass_sequence, State.listened_sequence]
@[simp] theorem State.closed_echoMismatch (s : State) (inp : StrobeInput) : (s.closed inp).echoMismatch = (s.echoed inp).echoMismatch := by
  rw [State.closed, closedPass_echoMismatch, State.listened_echoMismatch]
@[simp] theorem State.closed_resetCause (s : State) (inp : StrobeInput) : (s.closed inp).resetCause = s.resetCause := by
  rw [State.closed, closedPass_resetCause, State.listened_resetCause]
@[simp] theorem State.closed_resets (s : State) (inp : StrobeInput) : (s.closed inp).resets = s.resets := by
  rw [State.closed, closedPass_resets, State.listened_resets]
@[simp] theorem State.closed_lanes (s : State) (inp : StrobeInput) : (s.closed inp).lanes = s.lanes := by
  rw [State.closed, closedPass_lanes, State.listened_lanes]
@[simp] theorem State.closed_sent (s : State) (inp : StrobeInput) : (s.closed inp).sent = s.sent := by
  rw [State.closed, closedPass_sent, State.listened_sent]
@[simp] theorem State.closed_directory (s : State) (inp : StrobeInput) : (s.closed inp).directory = s.directory := by
  rw [State.closed, closedPass_directory, State.listened_directory]
@[simp] theorem State.closed_ports (s : State) (inp : StrobeInput) : (s.closed inp).ports = (s.listened inp).ports := by
  rw [State.closed, closedPass_ports]
@[simp] theorem State.closed_levelA (s : State) (inp : StrobeInput) : (s.closed inp).levelA = (s.faulted inp).levelA := by
  rw [State.closed, closedPass_levelA, State.listened_levelA]
@[simp] theorem State.closed_levelB (s : State) (inp : StrobeInput) : (s.closed inp).levelB = (s.faulted inp).levelB := by
  rw [State.closed, closedPass_levelB, State.listened_levelB]
@[simp] theorem State.closed_mixes (s : State) (inp : StrobeInput) : (s.closed inp).mixes = s.mixes := by
  rw [State.closed, closedPass_mixes, State.listened_mixes]
@[simp] theorem State.closed_history (s : State) (inp : StrobeInput) : (s.closed inp).history = s.history := by
  rw [State.closed, closedPass_history, State.listened_history]
@[simp] theorem State.closed_link (s : State) (inp : StrobeInput) : (s.closed inp).link = s.link := by
  rw [State.closed, closedPass_link, State.listened_link]
@[simp] theorem State.closed_events (s : State) (inp : StrobeInput) : (s.closed inp).events = s.events := by
  rw [State.closed, closedPass_events, State.listened_events]
@[simp] theorem State.closed_overflow (s : State) (inp : StrobeInput) : (s.closed inp).overflow = s.overflow := by
  rw [State.closed, closedPass_overflow, State.listened_overflow]
@[simp] theorem State.closed_capture (s : State) (inp : StrobeInput) : (s.closed inp).capture = s.capture := by
  rw [State.closed, closedPass_capture, State.listened_capture]
@[simp] theorem State.closed_output (s : State) (inp : StrobeInput) : (s.closed inp).output = s.output := by
  rw [State.closed, closedPass_output, State.listened_output]
@[simp] theorem State.closed_position (s : State) (inp : StrobeInput) : (s.closed inp).position = s.position := by
  rw [State.closed, closedPass_position, State.listened_position]
@[simp] theorem State.closed_adout (s : State) (inp : StrobeInput) : (s.closed inp).adout = s.adout := by
  rw [State.closed, closedPass_adout, State.listened_adout]
@[simp] theorem State.closed_freeCount (s : State) (inp : StrobeInput) : (s.closed inp).freeCount = s.freeCount := by
  rw [State.closed, closedPass_freeCount, State.listened_freeCount]

@[simp] theorem State.laned_pending (s : State) (inp : StrobeInput) : (s.laned inp).pending = s.pending := by
  rw [State.laned, lanePass_pending, State.closed_pending]
@[simp] theorem State.laned_monitor (s : State) (inp : StrobeInput) : (s.laned inp).monitor = (s.noted inp).monitor := by
  rw [State.laned, lanePass_monitor, State.closed_monitor]
@[simp] theorem State.laned_stationNumber (s : State) (inp : StrobeInput) : (s.laned inp).stationNumber = s.stationNumber := by
  rw [State.laned, lanePass_stationNumber, State.closed_stationNumber]
@[simp] theorem State.laned_sequence (s : State) (inp : StrobeInput) : (s.laned inp).sequence = s.sequence := by
  rw [State.laned, lanePass_sequence, State.closed_sequence]
@[simp] theorem State.laned_station (s : State) (inp : StrobeInput) : (s.laned inp).station = (s.closed inp).station := by
  rw [State.laned, lanePass_station]
@[simp] theorem State.laned_echoMismatch (s : State) (inp : StrobeInput) : (s.laned inp).echoMismatch = (s.echoed inp).echoMismatch := by
  rw [State.laned, lanePass_echoMismatch, State.closed_echoMismatch]
@[simp] theorem State.laned_resetCause (s : State) (inp : StrobeInput) : (s.laned inp).resetCause = s.resetCause := by
  rw [State.laned, lanePass_resetCause, State.closed_resetCause]
@[simp] theorem State.laned_resets (s : State) (inp : StrobeInput) : (s.laned inp).resets = s.resets := by
  rw [State.laned, lanePass_resets, State.closed_resets]
@[simp] theorem State.laned_sent (s : State) (inp : StrobeInput) : (s.laned inp).sent = s.sent := by
  rw [State.laned, lanePass_sent, State.closed_sent]
@[simp] theorem State.laned_lout (s : State) (inp : StrobeInput) : (s.laned inp).lout = (s.closed inp).lout := by
  rw [State.laned, lanePass_lout]
@[simp] theorem State.laned_directory (s : State) (inp : StrobeInput) : (s.laned inp).directory = s.directory := by
  rw [State.laned, lanePass_directory, State.closed_directory]
@[simp] theorem State.laned_ports (s : State) (inp : StrobeInput) : (s.laned inp).ports = (s.listened inp).ports := by
  rw [State.laned, lanePass_ports, State.closed_ports]
@[simp] theorem State.laned_levelA (s : State) (inp : StrobeInput) : (s.laned inp).levelA = (s.faulted inp).levelA := by
  rw [State.laned, lanePass_levelA, State.closed_levelA]
@[simp] theorem State.laned_levelB (s : State) (inp : StrobeInput) : (s.laned inp).levelB = (s.faulted inp).levelB := by
  rw [State.laned, lanePass_levelB, State.closed_levelB]
@[simp] theorem State.laned_mixes (s : State) (inp : StrobeInput) : (s.laned inp).mixes = s.mixes := by
  rw [State.laned, lanePass_mixes, State.closed_mixes]
@[simp] theorem State.laned_history (s : State) (inp : StrobeInput) : (s.laned inp).history = s.history := by
  rw [State.laned, lanePass_history, State.closed_history]
@[simp] theorem State.laned_link (s : State) (inp : StrobeInput) : (s.laned inp).link = s.link := by
  rw [State.laned, lanePass_link, State.closed_link]
@[simp] theorem State.laned_events (s : State) (inp : StrobeInput) : (s.laned inp).events = s.events := by
  rw [State.laned, lanePass_events, State.closed_events]
@[simp] theorem State.laned_overflow (s : State) (inp : StrobeInput) : (s.laned inp).overflow = s.overflow := by
  rw [State.laned, lanePass_overflow, State.closed_overflow]
@[simp] theorem State.laned_capture (s : State) (inp : StrobeInput) : (s.laned inp).capture = s.capture := by
  rw [State.laned, lanePass_capture, State.closed_capture]
@[simp] theorem State.laned_output (s : State) (inp : StrobeInput) : (s.laned inp).output = s.output := by
  rw [State.laned, lanePass_output, State.closed_output]
@[simp] theorem State.laned_position (s : State) (inp : StrobeInput) : (s.laned inp).position = s.position := by
  rw [State.laned, lanePass_position, State.closed_position]
@[simp] theorem State.laned_adout (s : State) (inp : StrobeInput) : (s.laned inp).adout = s.adout := by
  rw [State.laned, lanePass_adout, State.closed_adout]
@[simp] theorem State.laned_freeCount (s : State) (inp : StrobeInput) : (s.laned inp).freeCount = s.freeCount := by
  rw [State.laned, lanePass_freeCount, State.closed_freeCount]

@[simp] theorem State.filed_pending (s : State) (inp : StrobeInput) : (s.filed inp).pending = s.pending := by
  rw [State.filed, directoryPass_pending, State.laned_pending]
@[simp] theorem State.filed_monitor (s : State) (inp : StrobeInput) : (s.filed inp).monitor = (s.noted inp).monitor := by
  rw [State.filed, directoryPass_monitor, State.laned_monitor]
@[simp] theorem State.filed_stationNumber (s : State) (inp : StrobeInput) : (s.filed inp).stationNumber = s.stationNumber := by
  rw [State.filed, directoryPass_stationNumber, State.laned_stationNumber]
@[simp] theorem State.filed_sequence (s : State) (inp : StrobeInput) : (s.filed inp).sequence = s.sequence := by
  rw [State.filed, directoryPass_sequence, State.laned_sequence]
@[simp] theorem State.filed_station (s : State) (inp : StrobeInput) : (s.filed inp).station = (s.closed inp).station := by
  rw [State.filed, directoryPass_station, State.laned_station]
@[simp] theorem State.filed_echoMismatch (s : State) (inp : StrobeInput) : (s.filed inp).echoMismatch = (s.echoed inp).echoMismatch := by
  rw [State.filed, directoryPass_echoMismatch, State.laned_echoMismatch]
@[simp] theorem State.filed_resetCause (s : State) (inp : StrobeInput) : (s.filed inp).resetCause = s.resetCause := by
  rw [State.filed, directoryPass_resetCause, State.laned_resetCause]
@[simp] theorem State.filed_resets (s : State) (inp : StrobeInput) : (s.filed inp).resets = s.resets := by
  rw [State.filed, directoryPass_resets, State.laned_resets]
@[simp] theorem State.filed_lanes (s : State) (inp : StrobeInput) : (s.filed inp).lanes = (s.laned inp).lanes := by
  rw [State.filed, directoryPass_lanes]
@[simp] theorem State.filed_sent (s : State) (inp : StrobeInput) : (s.filed inp).sent = s.sent := by
  rw [State.filed, directoryPass_sent, State.laned_sent]
@[simp] theorem State.filed_lout (s : State) (inp : StrobeInput) : (s.filed inp).lout = (s.closed inp).lout := by
  rw [State.filed, directoryPass_lout, State.laned_lout]
@[simp] theorem State.filed_ports (s : State) (inp : StrobeInput) : (s.filed inp).ports = (s.listened inp).ports := by
  rw [State.filed, directoryPass_ports, State.laned_ports]
@[simp] theorem State.filed_levelA (s : State) (inp : StrobeInput) : (s.filed inp).levelA = (s.faulted inp).levelA := by
  rw [State.filed, directoryPass_levelA, State.laned_levelA]
@[simp] theorem State.filed_levelB (s : State) (inp : StrobeInput) : (s.filed inp).levelB = (s.faulted inp).levelB := by
  rw [State.filed, directoryPass_levelB, State.laned_levelB]
@[simp] theorem State.filed_mixes (s : State) (inp : StrobeInput) : (s.filed inp).mixes = s.mixes := by
  rw [State.filed, directoryPass_mixes, State.laned_mixes]
@[simp] theorem State.filed_history (s : State) (inp : StrobeInput) : (s.filed inp).history = s.history := by
  rw [State.filed, directoryPass_history, State.laned_history]
@[simp] theorem State.filed_link (s : State) (inp : StrobeInput) : (s.filed inp).link = s.link := by
  rw [State.filed, directoryPass_link, State.laned_link]
@[simp] theorem State.filed_events (s : State) (inp : StrobeInput) : (s.filed inp).events = s.events := by
  rw [State.filed, directoryPass_events, State.laned_events]
@[simp] theorem State.filed_overflow (s : State) (inp : StrobeInput) : (s.filed inp).overflow = s.overflow := by
  rw [State.filed, directoryPass_overflow, State.laned_overflow]
@[simp] theorem State.filed_capture (s : State) (inp : StrobeInput) : (s.filed inp).capture = s.capture := by
  rw [State.filed, directoryPass_capture, State.laned_capture]
@[simp] theorem State.filed_output (s : State) (inp : StrobeInput) : (s.filed inp).output = s.output := by
  rw [State.filed, directoryPass_output, State.laned_output]
@[simp] theorem State.filed_position (s : State) (inp : StrobeInput) : (s.filed inp).position = s.position := by
  rw [State.filed, directoryPass_position, State.laned_position]
@[simp] theorem State.filed_adout (s : State) (inp : StrobeInput) : (s.filed inp).adout = s.adout := by
  rw [State.filed, directoryPass_adout, State.laned_adout]
@[simp] theorem State.filed_freeCount (s : State) (inp : StrobeInput) : (s.filed inp).freeCount = s.freeCount := by
  rw [State.filed, directoryPass_freeCount, State.laned_freeCount]

@[simp] theorem State.claimed_pending (s : State) (inp : StrobeInput) : (s.claimed inp).pending = s.pending := by
  rw [State.claimed, claimPass_pending, State.filed_pending]
@[simp] theorem State.claimed_monitor (s : State) (inp : StrobeInput) : (s.claimed inp).monitor = (s.noted inp).monitor := by
  rw [State.claimed, claimPass_monitor, State.filed_monitor]
@[simp] theorem State.claimed_stationNumber (s : State) (inp : StrobeInput) : (s.claimed inp).stationNumber = s.stationNumber := by
  rw [State.claimed, claimPass_stationNumber, State.filed_stationNumber]
@[simp] theorem State.claimed_sequence (s : State) (inp : StrobeInput) : (s.claimed inp).sequence = s.sequence := by
  rw [State.claimed, claimPass_sequence, State.filed_sequence]
@[simp] theorem State.claimed_station (s : State) (inp : StrobeInput) : (s.claimed inp).station = (s.closed inp).station := by
  rw [State.claimed, claimPass_station, State.filed_station]
@[simp] theorem State.claimed_echoMismatch (s : State) (inp : StrobeInput) : (s.claimed inp).echoMismatch = (s.echoed inp).echoMismatch := by
  rw [State.claimed, claimPass_echoMismatch, State.filed_echoMismatch]
@[simp] theorem State.claimed_resetCause (s : State) (inp : StrobeInput) : (s.claimed inp).resetCause = s.resetCause := by
  rw [State.claimed, claimPass_resetCause, State.filed_resetCause]
@[simp] theorem State.claimed_resets (s : State) (inp : StrobeInput) : (s.claimed inp).resets = s.resets := by
  rw [State.claimed, claimPass_resets, State.filed_resets]
@[simp] theorem State.claimed_lanes (s : State) (inp : StrobeInput) : (s.claimed inp).lanes = (s.laned inp).lanes := by
  rw [State.claimed, claimPass_lanes, State.filed_lanes]
@[simp] theorem State.claimed_sent (s : State) (inp : StrobeInput) : (s.claimed inp).sent = s.sent := by
  rw [State.claimed, claimPass_sent, State.filed_sent]
@[simp] theorem State.claimed_lout (s : State) (inp : StrobeInput) : (s.claimed inp).lout = (s.closed inp).lout := by
  rw [State.claimed, claimPass_lout, State.filed_lout]
@[simp] theorem State.claimed_directory (s : State) (inp : StrobeInput) : (s.claimed inp).directory = (s.filed inp).directory := by
  rw [State.claimed, claimPass_directory]
@[simp] theorem State.claimed_levelA (s : State) (inp : StrobeInput) : (s.claimed inp).levelA = (s.faulted inp).levelA := by
  rw [State.claimed, claimPass_levelA, State.filed_levelA]
@[simp] theorem State.claimed_levelB (s : State) (inp : StrobeInput) : (s.claimed inp).levelB = (s.faulted inp).levelB := by
  rw [State.claimed, claimPass_levelB, State.filed_levelB]
@[simp] theorem State.claimed_mixes (s : State) (inp : StrobeInput) : (s.claimed inp).mixes = s.mixes := by
  rw [State.claimed, claimPass_mixes, State.filed_mixes]
@[simp] theorem State.claimed_history (s : State) (inp : StrobeInput) : (s.claimed inp).history = s.history := by
  rw [State.claimed, claimPass_history, State.filed_history]
@[simp] theorem State.claimed_link (s : State) (inp : StrobeInput) : (s.claimed inp).link = s.link := by
  rw [State.claimed, claimPass_link, State.filed_link]
@[simp] theorem State.claimed_events (s : State) (inp : StrobeInput) : (s.claimed inp).events = s.events := by
  rw [State.claimed, claimPass_events, State.filed_events]
@[simp] theorem State.claimed_overflow (s : State) (inp : StrobeInput) : (s.claimed inp).overflow = s.overflow := by
  rw [State.claimed, claimPass_overflow, State.filed_overflow]
@[simp] theorem State.claimed_capture (s : State) (inp : StrobeInput) : (s.claimed inp).capture = s.capture := by
  rw [State.claimed, claimPass_capture, State.filed_capture]
@[simp] theorem State.claimed_output (s : State) (inp : StrobeInput) : (s.claimed inp).output = s.output := by
  rw [State.claimed, claimPass_output, State.filed_output]
@[simp] theorem State.claimed_position (s : State) (inp : StrobeInput) : (s.claimed inp).position = s.position := by
  rw [State.claimed, claimPass_position, State.filed_position]
@[simp] theorem State.claimed_adout (s : State) (inp : StrobeInput) : (s.claimed inp).adout = s.adout := by
  rw [State.claimed, claimPass_adout, State.filed_adout]
@[simp] theorem State.claimed_freeCount (s : State) (inp : StrobeInput) : (s.claimed inp).freeCount = s.freeCount := by
  rw [State.claimed, claimPass_freeCount, State.filed_freeCount]

@[simp] theorem State.checked_pending (s : State) (inp : StrobeInput) : (s.checked inp).pending = s.pending := by
  rw [State.checked, withdrawalPass_pending, State.claimed_pending]
@[simp] theorem State.checked_monitor (s : State) (inp : StrobeInput) : (s.checked inp).monitor = (s.noted inp).monitor := by
  rw [State.checked, withdrawalPass_monitor, State.claimed_monitor]
@[simp] theorem State.checked_stationNumber (s : State) (inp : StrobeInput) : (s.checked inp).stationNumber = s.stationNumber := by
  rw [State.checked, withdrawalPass_stationNumber, State.claimed_stationNumber]
@[simp] theorem State.checked_sequence (s : State) (inp : StrobeInput) : (s.checked inp).sequence = s.sequence := by
  rw [State.checked, withdrawalPass_sequence, State.claimed_sequence]
@[simp] theorem State.checked_echoMismatch (s : State) (inp : StrobeInput) : (s.checked inp).echoMismatch = (s.echoed inp).echoMismatch := by
  rw [State.checked, withdrawalPass_echoMismatch, State.claimed_echoMismatch]
@[simp] theorem State.checked_resetCause (s : State) (inp : StrobeInput) : (s.checked inp).resetCause = s.resetCause := by
  rw [State.checked, withdrawalPass_resetCause, State.claimed_resetCause]
@[simp] theorem State.checked_resets (s : State) (inp : StrobeInput) : (s.checked inp).resets = s.resets := by
  rw [State.checked, withdrawalPass_resets, State.claimed_resets]
@[simp] theorem State.checked_lanes (s : State) (inp : StrobeInput) : (s.checked inp).lanes = (s.laned inp).lanes := by
  rw [State.checked, withdrawalPass_lanes, State.claimed_lanes]
@[simp] theorem State.checked_sent (s : State) (inp : StrobeInput) : (s.checked inp).sent = s.sent := by
  rw [State.checked, withdrawalPass_sent, State.claimed_sent]
@[simp] theorem State.checked_lout (s : State) (inp : StrobeInput) : (s.checked inp).lout = (s.closed inp).lout := by
  rw [State.checked, withdrawalPass_lout, State.claimed_lout]
@[simp] theorem State.checked_directory (s : State) (inp : StrobeInput) : (s.checked inp).directory = (s.filed inp).directory := by
  rw [State.checked, withdrawalPass_directory, State.claimed_directory]
@[simp] theorem State.checked_levelA (s : State) (inp : StrobeInput) : (s.checked inp).levelA = (s.faulted inp).levelA := by
  rw [State.checked, withdrawalPass_levelA, State.claimed_levelA]
@[simp] theorem State.checked_levelB (s : State) (inp : StrobeInput) : (s.checked inp).levelB = (s.faulted inp).levelB := by
  rw [State.checked, withdrawalPass_levelB, State.claimed_levelB]
@[simp] theorem State.checked_history (s : State) (inp : StrobeInput) : (s.checked inp).history = s.history := by
  rw [State.checked, withdrawalPass_history, State.claimed_history]
@[simp] theorem State.checked_link (s : State) (inp : StrobeInput) : (s.checked inp).link = s.link := by
  rw [State.checked, withdrawalPass_link, State.claimed_link]
@[simp] theorem State.checked_events (s : State) (inp : StrobeInput) : (s.checked inp).events = s.events := by
  rw [State.checked, withdrawalPass_events, State.claimed_events]
@[simp] theorem State.checked_overflow (s : State) (inp : StrobeInput) : (s.checked inp).overflow = s.overflow := by
  rw [State.checked, withdrawalPass_overflow, State.claimed_overflow]
@[simp] theorem State.checked_capture (s : State) (inp : StrobeInput) : (s.checked inp).capture = s.capture := by
  rw [State.checked, withdrawalPass_capture, State.claimed_capture]
@[simp] theorem State.checked_output (s : State) (inp : StrobeInput) : (s.checked inp).output = s.output := by
  rw [State.checked, withdrawalPass_output, State.claimed_output]
@[simp] theorem State.checked_position (s : State) (inp : StrobeInput) : (s.checked inp).position = s.position := by
  rw [State.checked, withdrawalPass_position, State.claimed_position]
@[simp] theorem State.checked_adout (s : State) (inp : StrobeInput) : (s.checked inp).adout = s.adout := by
  rw [State.checked, withdrawalPass_adout, State.claimed_adout]
@[simp] theorem State.checked_freeCount (s : State) (inp : StrobeInput) : (s.checked inp).freeCount = s.freeCount := by
  rw [State.checked, withdrawalPass_freeCount, State.claimed_freeCount]

@[simp] theorem State.measured_pending (s : State) (inp : StrobeInput) : (s.measured inp).pending = s.pending := by
  rw [State.measured, measurePass_pending, State.checked_pending]
@[simp] theorem State.measured_monitor (s : State) (inp : StrobeInput) : (s.measured inp).monitor = (s.noted inp).monitor := by
  rw [State.measured, measurePass_monitor, State.checked_monitor]
@[simp] theorem State.measured_stationNumber (s : State) (inp : StrobeInput) : (s.measured inp).stationNumber = s.stationNumber := by
  rw [State.measured, measurePass_stationNumber, State.checked_stationNumber]
@[simp] theorem State.measured_sequence (s : State) (inp : StrobeInput) : (s.measured inp).sequence = s.sequence := by
  rw [State.measured, measurePass_sequence, State.checked_sequence]
@[simp] theorem State.measured_station (s : State) (inp : StrobeInput) : (s.measured inp).station = (s.checked inp).station := by
  rw [State.measured, measurePass_station]
@[simp] theorem State.measured_echoMismatch (s : State) (inp : StrobeInput) : (s.measured inp).echoMismatch = (s.echoed inp).echoMismatch := by
  rw [State.measured, measurePass_echoMismatch, State.checked_echoMismatch]
@[simp] theorem State.measured_resetCause (s : State) (inp : StrobeInput) : (s.measured inp).resetCause = s.resetCause := by
  rw [State.measured, measurePass_resetCause, State.checked_resetCause]
@[simp] theorem State.measured_resets (s : State) (inp : StrobeInput) : (s.measured inp).resets = s.resets := by
  rw [State.measured, measurePass_resets, State.checked_resets]
@[simp] theorem State.measured_lanes (s : State) (inp : StrobeInput) : (s.measured inp).lanes = (s.laned inp).lanes := by
  rw [State.measured, measurePass_lanes, State.checked_lanes]
@[simp] theorem State.measured_sent (s : State) (inp : StrobeInput) : (s.measured inp).sent = s.sent := by
  rw [State.measured, measurePass_sent, State.checked_sent]
@[simp] theorem State.measured_lout (s : State) (inp : StrobeInput) : (s.measured inp).lout = (s.closed inp).lout := by
  rw [State.measured, measurePass_lout, State.checked_lout]
@[simp] theorem State.measured_directory (s : State) (inp : StrobeInput) : (s.measured inp).directory = (s.filed inp).directory := by
  rw [State.measured, measurePass_directory, State.checked_directory]
@[simp] theorem State.measured_levelA (s : State) (inp : StrobeInput) : (s.measured inp).levelA = (s.faulted inp).levelA := by
  rw [State.measured, measurePass_levelA, State.checked_levelA]
@[simp] theorem State.measured_levelB (s : State) (inp : StrobeInput) : (s.measured inp).levelB = (s.faulted inp).levelB := by
  rw [State.measured, measurePass_levelB, State.checked_levelB]
@[simp] theorem State.measured_mixes (s : State) (inp : StrobeInput) : (s.measured inp).mixes = (s.checked inp).mixes := by
  rw [State.measured, measurePass_mixes]
@[simp] theorem State.measured_history (s : State) (inp : StrobeInput) : (s.measured inp).history = s.history := by
  rw [State.measured, measurePass_history, State.checked_history]
@[simp] theorem State.measured_link (s : State) (inp : StrobeInput) : (s.measured inp).link = s.link := by
  rw [State.measured, measurePass_link, State.checked_link]
@[simp] theorem State.measured_events (s : State) (inp : StrobeInput) : (s.measured inp).events = s.events := by
  rw [State.measured, measurePass_events, State.checked_events]
@[simp] theorem State.measured_overflow (s : State) (inp : StrobeInput) : (s.measured inp).overflow = s.overflow := by
  rw [State.measured, measurePass_overflow, State.checked_overflow]
@[simp] theorem State.measured_capture (s : State) (inp : StrobeInput) : (s.measured inp).capture = s.capture := by
  rw [State.measured, measurePass_capture, State.checked_capture]
@[simp] theorem State.measured_output (s : State) (inp : StrobeInput) : (s.measured inp).output = s.output := by
  rw [State.measured, measurePass_output, State.checked_output]
@[simp] theorem State.measured_position (s : State) (inp : StrobeInput) : (s.measured inp).position = s.position := by
  rw [State.measured, measurePass_position, State.checked_position]
@[simp] theorem State.measured_adout (s : State) (inp : StrobeInput) : (s.measured inp).adout = s.adout := by
  rw [State.measured, measurePass_adout, State.checked_adout]
@[simp] theorem State.measured_freeCount (s : State) (inp : StrobeInput) : (s.measured inp).freeCount = s.freeCount := by
  rw [State.measured, measurePass_freeCount, State.checked_freeCount]

@[simp] theorem State.statused_pending (s : State) (inp : StrobeInput) : (s.statused inp).pending = s.pending := by
  rw [State.statused, statusPass_pending, State.measured_pending]
@[simp] theorem State.statused_monitor (s : State) (inp : StrobeInput) : (s.statused inp).monitor = (s.noted inp).monitor := by
  rw [State.statused, statusPass_monitor, State.measured_monitor]
@[simp] theorem State.statused_stationNumber (s : State) (inp : StrobeInput) : (s.statused inp).stationNumber = s.stationNumber := by
  rw [State.statused, statusPass_stationNumber, State.measured_stationNumber]
@[simp] theorem State.statused_sequence (s : State) (inp : StrobeInput) : (s.statused inp).sequence = s.sequence := by
  rw [State.statused, statusPass_sequence, State.measured_sequence]
@[simp] theorem State.statused_station (s : State) (inp : StrobeInput) : (s.statused inp).station = (s.checked inp).station := by
  rw [State.statused, statusPass_station, State.measured_station]
@[simp] theorem State.statused_echoMismatch (s : State) (inp : StrobeInput) : (s.statused inp).echoMismatch = (s.echoed inp).echoMismatch := by
  rw [State.statused, statusPass_echoMismatch, State.measured_echoMismatch]
@[simp] theorem State.statused_resetCause (s : State) (inp : StrobeInput) : (s.statused inp).resetCause = s.resetCause := by
  rw [State.statused, statusPass_resetCause, State.measured_resetCause]
@[simp] theorem State.statused_resets (s : State) (inp : StrobeInput) : (s.statused inp).resets = s.resets := by
  rw [State.statused, statusPass_resets, State.measured_resets]
@[simp] theorem State.statused_lanes (s : State) (inp : StrobeInput) : (s.statused inp).lanes = (s.laned inp).lanes := by
  rw [State.statused, statusPass_lanes, State.measured_lanes]
@[simp] theorem State.statused_sent (s : State) (inp : StrobeInput) : (s.statused inp).sent = s.sent := by
  rw [State.statused, statusPass_sent, State.measured_sent]
@[simp] theorem State.statused_lout (s : State) (inp : StrobeInput) : (s.statused inp).lout = (s.closed inp).lout := by
  rw [State.statused, statusPass_lout, State.measured_lout]
@[simp] theorem State.statused_directory (s : State) (inp : StrobeInput) : (s.statused inp).directory = (s.filed inp).directory := by
  rw [State.statused, statusPass_directory, State.measured_directory]
@[simp] theorem State.statused_ports (s : State) (inp : StrobeInput) : (s.statused inp).ports = (s.measured inp).ports := by
  rw [State.statused, statusPass_ports]
@[simp] theorem State.statused_levelA (s : State) (inp : StrobeInput) : (s.statused inp).levelA = (s.faulted inp).levelA := by
  rw [State.statused, statusPass_levelA, State.measured_levelA]
@[simp] theorem State.statused_levelB (s : State) (inp : StrobeInput) : (s.statused inp).levelB = (s.faulted inp).levelB := by
  rw [State.statused, statusPass_levelB, State.measured_levelB]
@[simp] theorem State.statused_history (s : State) (inp : StrobeInput) : (s.statused inp).history = s.history := by
  rw [State.statused, statusPass_history, State.measured_history]
@[simp] theorem State.statused_link (s : State) (inp : StrobeInput) : (s.statused inp).link = s.link := by
  rw [State.statused, statusPass_link, State.measured_link]
@[simp] theorem State.statused_events (s : State) (inp : StrobeInput) : (s.statused inp).events = s.events := by
  rw [State.statused, statusPass_events, State.measured_events]
@[simp] theorem State.statused_overflow (s : State) (inp : StrobeInput) : (s.statused inp).overflow = s.overflow := by
  rw [State.statused, statusPass_overflow, State.measured_overflow]
@[simp] theorem State.statused_capture (s : State) (inp : StrobeInput) : (s.statused inp).capture = s.capture := by
  rw [State.statused, statusPass_capture, State.measured_capture]
@[simp] theorem State.statused_output (s : State) (inp : StrobeInput) : (s.statused inp).output = s.output := by
  rw [State.statused, statusPass_output, State.measured_output]
@[simp] theorem State.statused_position (s : State) (inp : StrobeInput) : (s.statused inp).position = s.position := by
  rw [State.statused, statusPass_position, State.measured_position]
@[simp] theorem State.statused_adout (s : State) (inp : StrobeInput) : (s.statused inp).adout = s.adout := by
  rw [State.statused, statusPass_adout, State.measured_adout]
@[simp] theorem State.statused_freeCount (s : State) (inp : StrobeInput) : (s.statused inp).freeCount = s.freeCount := by
  rw [State.statused, statusPass_freeCount, State.measured_freeCount]

@[simp] theorem State.returned_pending (s : State) (inp : StrobeInput) : (s.returned inp).pending = s.pending := by
  rw [State.returned, returnPass_pending, State.statused_pending]
@[simp] theorem State.returned_monitor (s : State) (inp : StrobeInput) : (s.returned inp).monitor = (s.noted inp).monitor := by
  rw [State.returned, returnPass_monitor, State.statused_monitor]
@[simp] theorem State.returned_stationNumber (s : State) (inp : StrobeInput) : (s.returned inp).stationNumber = s.stationNumber := by
  rw [State.returned, returnPass_stationNumber, State.statused_stationNumber]
@[simp] theorem State.returned_sequence (s : State) (inp : StrobeInput) : (s.returned inp).sequence = s.sequence := by
  rw [State.returned, returnPass_sequence, State.statused_sequence]
@[simp] theorem State.returned_station (s : State) (inp : StrobeInput) : (s.returned inp).station = (s.checked inp).station := by
  rw [State.returned, returnPass_station, State.statused_station]
@[simp] theorem State.returned_echoMismatch (s : State) (inp : StrobeInput) : (s.returned inp).echoMismatch = (s.echoed inp).echoMismatch := by
  rw [State.returned, returnPass_echoMismatch, State.statused_echoMismatch]
@[simp] theorem State.returned_resetCause (s : State) (inp : StrobeInput) : (s.returned inp).resetCause = s.resetCause := by
  rw [State.returned, returnPass_resetCause, State.statused_resetCause]
@[simp] theorem State.returned_resets (s : State) (inp : StrobeInput) : (s.returned inp).resets = s.resets := by
  rw [State.returned, returnPass_resets, State.statused_resets]
@[simp] theorem State.returned_lanes (s : State) (inp : StrobeInput) : (s.returned inp).lanes = (s.laned inp).lanes := by
  rw [State.returned, returnPass_lanes, State.statused_lanes]
@[simp] theorem State.returned_sent (s : State) (inp : StrobeInput) : (s.returned inp).sent = s.sent := by
  rw [State.returned, returnPass_sent, State.statused_sent]
@[simp] theorem State.returned_lout (s : State) (inp : StrobeInput) : (s.returned inp).lout = (s.closed inp).lout := by
  rw [State.returned, returnPass_lout, State.statused_lout]
@[simp] theorem State.returned_directory (s : State) (inp : StrobeInput) : (s.returned inp).directory = (s.filed inp).directory := by
  rw [State.returned, returnPass_directory, State.statused_directory]
@[simp] theorem State.returned_levelA (s : State) (inp : StrobeInput) : (s.returned inp).levelA = (s.faulted inp).levelA := by
  rw [State.returned, returnPass_levelA, State.statused_levelA]
@[simp] theorem State.returned_levelB (s : State) (inp : StrobeInput) : (s.returned inp).levelB = (s.faulted inp).levelB := by
  rw [State.returned, returnPass_levelB, State.statused_levelB]
@[simp] theorem State.returned_mixes (s : State) (inp : StrobeInput) : (s.returned inp).mixes = (s.statused inp).mixes := by
  rw [State.returned, returnPass_mixes]
@[simp] theorem State.returned_history (s : State) (inp : StrobeInput) : (s.returned inp).history = s.history := by
  rw [State.returned, returnPass_history, State.statused_history]
@[simp] theorem State.returned_link (s : State) (inp : StrobeInput) : (s.returned inp).link = s.link := by
  rw [State.returned, returnPass_link, State.statused_link]
@[simp] theorem State.returned_events (s : State) (inp : StrobeInput) : (s.returned inp).events = s.events := by
  rw [State.returned, returnPass_events, State.statused_events]
@[simp] theorem State.returned_overflow (s : State) (inp : StrobeInput) : (s.returned inp).overflow = s.overflow := by
  rw [State.returned, returnPass_overflow, State.statused_overflow]
@[simp] theorem State.returned_capture (s : State) (inp : StrobeInput) : (s.returned inp).capture = s.capture := by
  rw [State.returned, returnPass_capture, State.statused_capture]
@[simp] theorem State.returned_position (s : State) (inp : StrobeInput) : (s.returned inp).position = s.position := by
  rw [State.returned, returnPass_position, State.statused_position]
@[simp] theorem State.returned_adout (s : State) (inp : StrobeInput) : (s.returned inp).adout = s.adout := by
  rw [State.returned, returnPass_adout, State.statused_adout]
@[simp] theorem State.returned_freeCount (s : State) (inp : StrobeInput) : (s.returned inp).freeCount = s.freeCount := by
  rw [State.returned, returnPass_freeCount, State.statused_freeCount]

@[simp] theorem State.cadenced_pending (s : State) (inp : StrobeInput) : (s.cadenced inp).pending = s.pending := by
  rw [State.cadenced, cadencePass_pending, State.returned_pending]
@[simp] theorem State.cadenced_monitor (s : State) (inp : StrobeInput) : (s.cadenced inp).monitor = (s.noted inp).monitor := by
  rw [State.cadenced, cadencePass_monitor, State.returned_monitor]
@[simp] theorem State.cadenced_stationNumber (s : State) (inp : StrobeInput) : (s.cadenced inp).stationNumber = s.stationNumber := by
  rw [State.cadenced, cadencePass_stationNumber, State.returned_stationNumber]
@[simp] theorem State.cadenced_sequence (s : State) (inp : StrobeInput) : (s.cadenced inp).sequence = s.sequence := by
  rw [State.cadenced, cadencePass_sequence, State.returned_sequence]
@[simp] theorem State.cadenced_station (s : State) (inp : StrobeInput) : (s.cadenced inp).station = (s.checked inp).station := by
  rw [State.cadenced, cadencePass_station, State.returned_station]
@[simp] theorem State.cadenced_echoMismatch (s : State) (inp : StrobeInput) : (s.cadenced inp).echoMismatch = (s.echoed inp).echoMismatch := by
  rw [State.cadenced, cadencePass_echoMismatch, State.returned_echoMismatch]
@[simp] theorem State.cadenced_resetCause (s : State) (inp : StrobeInput) : (s.cadenced inp).resetCause = s.resetCause := by
  rw [State.cadenced, cadencePass_resetCause, State.returned_resetCause]
@[simp] theorem State.cadenced_resets (s : State) (inp : StrobeInput) : (s.cadenced inp).resets = s.resets := by
  rw [State.cadenced, cadencePass_resets, State.returned_resets]
@[simp] theorem State.cadenced_lanes (s : State) (inp : StrobeInput) : (s.cadenced inp).lanes = (s.laned inp).lanes := by
  rw [State.cadenced, cadencePass_lanes, State.returned_lanes]
@[simp] theorem State.cadenced_sent (s : State) (inp : StrobeInput) : (s.cadenced inp).sent = s.sent := by
  rw [State.cadenced, cadencePass_sent, State.returned_sent]
@[simp] theorem State.cadenced_lout (s : State) (inp : StrobeInput) : (s.cadenced inp).lout = (s.closed inp).lout := by
  rw [State.cadenced, cadencePass_lout, State.returned_lout]
@[simp] theorem State.cadenced_directory (s : State) (inp : StrobeInput) : (s.cadenced inp).directory = (s.filed inp).directory := by
  rw [State.cadenced, cadencePass_directory, State.returned_directory]
@[simp] theorem State.cadenced_levelA (s : State) (inp : StrobeInput) : (s.cadenced inp).levelA = (s.faulted inp).levelA := by
  rw [State.cadenced, cadencePass_levelA, State.returned_levelA]
@[simp] theorem State.cadenced_levelB (s : State) (inp : StrobeInput) : (s.cadenced inp).levelB = (s.faulted inp).levelB := by
  rw [State.cadenced, cadencePass_levelB, State.returned_levelB]
@[simp] theorem State.cadenced_mixes (s : State) (inp : StrobeInput) : (s.cadenced inp).mixes = (s.statused inp).mixes := by
  rw [State.cadenced, cadencePass_mixes, State.returned_mixes]
@[simp] theorem State.cadenced_history (s : State) (inp : StrobeInput) : (s.cadenced inp).history = s.history := by
  rw [State.cadenced, cadencePass_history, State.returned_history]
@[simp] theorem State.cadenced_link (s : State) (inp : StrobeInput) : (s.cadenced inp).link = s.link := by
  rw [State.cadenced, cadencePass_link, State.returned_link]
@[simp] theorem State.cadenced_events (s : State) (inp : StrobeInput) : (s.cadenced inp).events = s.events := by
  rw [State.cadenced, cadencePass_events, State.returned_events]
@[simp] theorem State.cadenced_overflow (s : State) (inp : StrobeInput) : (s.cadenced inp).overflow = s.overflow := by
  rw [State.cadenced, cadencePass_overflow, State.returned_overflow]
@[simp] theorem State.cadenced_capture (s : State) (inp : StrobeInput) : (s.cadenced inp).capture = s.capture := by
  rw [State.cadenced, cadencePass_capture, State.returned_capture]
@[simp] theorem State.cadenced_output (s : State) (inp : StrobeInput) : (s.cadenced inp).output = (s.returned inp).output := by
  rw [State.cadenced, cadencePass_output]
@[simp] theorem State.cadenced_position (s : State) (inp : StrobeInput) : (s.cadenced inp).position = s.position := by
  rw [State.cadenced, cadencePass_position, State.returned_position]
@[simp] theorem State.cadenced_adout (s : State) (inp : StrobeInput) : (s.cadenced inp).adout = s.adout := by
  rw [State.cadenced, cadencePass_adout, State.returned_adout]
@[simp] theorem State.cadenced_freeCount (s : State) (inp : StrobeInput) : (s.cadenced inp).freeCount = s.freeCount := by
  rw [State.cadenced, cadencePass_freeCount, State.returned_freeCount]

@[simp] theorem State.composed_pending (s : State) (inp : StrobeInput) : (s.composed inp).pending = s.pending := by
  rw [State.composed, composePass_pending, State.cadenced_pending]
@[simp] theorem State.composed_monitor (s : State) (inp : StrobeInput) : (s.composed inp).monitor = (s.noted inp).monitor := by
  rw [State.composed, composePass_monitor, State.cadenced_monitor]
@[simp] theorem State.composed_stationNumber (s : State) (inp : StrobeInput) : (s.composed inp).stationNumber = s.stationNumber := by
  rw [State.composed, composePass_stationNumber, State.cadenced_stationNumber]
@[simp] theorem State.composed_sequence (s : State) (inp : StrobeInput) : (s.composed inp).sequence = s.sequence := by
  rw [State.composed, composePass_sequence, State.cadenced_sequence]
@[simp] theorem State.composed_station (s : State) (inp : StrobeInput) : (s.composed inp).station = (s.checked inp).station := by
  rw [State.composed, composePass_station, State.cadenced_station]
@[simp] theorem State.composed_echoMismatch (s : State) (inp : StrobeInput) : (s.composed inp).echoMismatch = (s.echoed inp).echoMismatch := by
  rw [State.composed, composePass_echoMismatch, State.cadenced_echoMismatch]
@[simp] theorem State.composed_resetCause (s : State) (inp : StrobeInput) : (s.composed inp).resetCause = s.resetCause := by
  rw [State.composed, composePass_resetCause, State.cadenced_resetCause]
@[simp] theorem State.composed_resets (s : State) (inp : StrobeInput) : (s.composed inp).resets = s.resets := by
  rw [State.composed, composePass_resets, State.cadenced_resets]
@[simp] theorem State.composed_lanes (s : State) (inp : StrobeInput) : (s.composed inp).lanes = (s.laned inp).lanes := by
  rw [State.composed, composePass_lanes, State.cadenced_lanes]
@[simp] theorem State.composed_sent (s : State) (inp : StrobeInput) : (s.composed inp).sent = s.sent := by
  rw [State.composed, composePass_sent, State.cadenced_sent]
@[simp] theorem State.composed_lout (s : State) (inp : StrobeInput) : (s.composed inp).lout = (s.closed inp).lout := by
  rw [State.composed, composePass_lout, State.cadenced_lout]
@[simp] theorem State.composed_directory (s : State) (inp : StrobeInput) : (s.composed inp).directory = (s.filed inp).directory := by
  rw [State.composed, composePass_directory, State.cadenced_directory]
@[simp] theorem State.composed_ports (s : State) (inp : StrobeInput) : (s.composed inp).ports = (s.cadenced inp).ports := by
  rw [State.composed, composePass_ports]
@[simp] theorem State.composed_levelA (s : State) (inp : StrobeInput) : (s.composed inp).levelA = (s.faulted inp).levelA := by
  rw [State.composed, composePass_levelA, State.cadenced_levelA]
@[simp] theorem State.composed_levelB (s : State) (inp : StrobeInput) : (s.composed inp).levelB = (s.faulted inp).levelB := by
  rw [State.composed, composePass_levelB, State.cadenced_levelB]
@[simp] theorem State.composed_history (s : State) (inp : StrobeInput) : (s.composed inp).history = s.history := by
  rw [State.composed, composePass_history, State.cadenced_history]
@[simp] theorem State.composed_link (s : State) (inp : StrobeInput) : (s.composed inp).link = s.link := by
  rw [State.composed, composePass_link, State.cadenced_link]
@[simp] theorem State.composed_events (s : State) (inp : StrobeInput) : (s.composed inp).events = s.events := by
  rw [State.composed, composePass_events, State.cadenced_events]
@[simp] theorem State.composed_overflow (s : State) (inp : StrobeInput) : (s.composed inp).overflow = s.overflow := by
  rw [State.composed, composePass_overflow, State.cadenced_overflow]
@[simp] theorem State.composed_capture (s : State) (inp : StrobeInput) : (s.composed inp).capture = s.capture := by
  rw [State.composed, composePass_capture, State.cadenced_capture]
@[simp] theorem State.composed_output (s : State) (inp : StrobeInput) : (s.composed inp).output = (s.returned inp).output := by
  rw [State.composed, composePass_output, State.cadenced_output]
@[simp] theorem State.composed_position (s : State) (inp : StrobeInput) : (s.composed inp).position = s.position := by
  rw [State.composed, composePass_position, State.cadenced_position]
@[simp] theorem State.composed_adout (s : State) (inp : StrobeInput) : (s.composed inp).adout = s.adout := by
  rw [State.composed, composePass_adout, State.cadenced_adout]
@[simp] theorem State.composed_freeCount (s : State) (inp : StrobeInput) : (s.composed inp).freeCount = s.freeCount := by
  rw [State.composed, composePass_freeCount, State.cadenced_freeCount]

@[simp] theorem State.judged_pending (s : State) (inp : StrobeInput) : (s.judged inp).pending = s.pending := by
  rw [State.judged, testPass_pending, State.composed_pending]
@[simp] theorem State.judged_monitor (s : State) (inp : StrobeInput) : (s.judged inp).monitor = (s.noted inp).monitor := by
  rw [State.judged, testPass_monitor, State.composed_monitor]
@[simp] theorem State.judged_stationNumber (s : State) (inp : StrobeInput) : (s.judged inp).stationNumber = s.stationNumber := by
  rw [State.judged, testPass_stationNumber, State.composed_stationNumber]
@[simp] theorem State.judged_sequence (s : State) (inp : StrobeInput) : (s.judged inp).sequence = s.sequence := by
  rw [State.judged, testPass_sequence, State.composed_sequence]
@[simp] theorem State.judged_echoMismatch (s : State) (inp : StrobeInput) : (s.judged inp).echoMismatch = (s.echoed inp).echoMismatch := by
  rw [State.judged, testPass_echoMismatch, State.composed_echoMismatch]
@[simp] theorem State.judged_resetCause (s : State) (inp : StrobeInput) : (s.judged inp).resetCause = s.resetCause := by
  rw [State.judged, testPass_resetCause, State.composed_resetCause]
@[simp] theorem State.judged_resets (s : State) (inp : StrobeInput) : (s.judged inp).resets = s.resets := by
  rw [State.judged, testPass_resets, State.composed_resets]
@[simp] theorem State.judged_lanes (s : State) (inp : StrobeInput) : (s.judged inp).lanes = (s.laned inp).lanes := by
  rw [State.judged, testPass_lanes, State.composed_lanes]
@[simp] theorem State.judged_sent (s : State) (inp : StrobeInput) : (s.judged inp).sent = s.sent := by
  rw [State.judged, testPass_sent, State.composed_sent]
@[simp] theorem State.judged_directory (s : State) (inp : StrobeInput) : (s.judged inp).directory = (s.filed inp).directory := by
  rw [State.judged, testPass_directory, State.composed_directory]
@[simp] theorem State.judged_ports (s : State) (inp : StrobeInput) : (s.judged inp).ports = (s.cadenced inp).ports := by
  rw [State.judged, testPass_ports, State.composed_ports]
@[simp] theorem State.judged_levelA (s : State) (inp : StrobeInput) : (s.judged inp).levelA = (s.faulted inp).levelA := by
  rw [State.judged, testPass_levelA, State.composed_levelA]
@[simp] theorem State.judged_levelB (s : State) (inp : StrobeInput) : (s.judged inp).levelB = (s.faulted inp).levelB := by
  rw [State.judged, testPass_levelB, State.composed_levelB]
@[simp] theorem State.judged_mixes (s : State) (inp : StrobeInput) : (s.judged inp).mixes = (s.composed inp).mixes := by
  rw [State.judged, testPass_mixes]
@[simp] theorem State.judged_history (s : State) (inp : StrobeInput) : (s.judged inp).history = s.history := by
  rw [State.judged, testPass_history, State.composed_history]
@[simp] theorem State.judged_link (s : State) (inp : StrobeInput) : (s.judged inp).link = s.link := by
  rw [State.judged, testPass_link, State.composed_link]
@[simp] theorem State.judged_events (s : State) (inp : StrobeInput) : (s.judged inp).events = s.events := by
  rw [State.judged, testPass_events, State.composed_events]
@[simp] theorem State.judged_overflow (s : State) (inp : StrobeInput) : (s.judged inp).overflow = s.overflow := by
  rw [State.judged, testPass_overflow, State.composed_overflow]
@[simp] theorem State.judged_capture (s : State) (inp : StrobeInput) : (s.judged inp).capture = s.capture := by
  rw [State.judged, testPass_capture, State.composed_capture]
@[simp] theorem State.judged_output (s : State) (inp : StrobeInput) : (s.judged inp).output = (s.returned inp).output := by
  rw [State.judged, testPass_output, State.composed_output]
@[simp] theorem State.judged_position (s : State) (inp : StrobeInput) : (s.judged inp).position = s.position := by
  rw [State.judged, testPass_position, State.composed_position]
@[simp] theorem State.judged_adout (s : State) (inp : StrobeInput) : (s.judged inp).adout = s.adout := by
  rw [State.judged, testPass_adout, State.composed_adout]
@[simp] theorem State.judged_freeCount (s : State) (inp : StrobeInput) : (s.judged inp).freeCount = s.freeCount := by
  rw [State.judged, testPass_freeCount, State.composed_freeCount]

@[simp] theorem State.transmitted_pending (s : State) (inp : StrobeInput) : (s.transmitted inp).pending = s.pending := by
  rw [State.transmitted, transmitPass_pending, State.judged_pending]
@[simp] theorem State.transmitted_monitor (s : State) (inp : StrobeInput) : (s.transmitted inp).monitor = (s.noted inp).monitor := by
  rw [State.transmitted, transmitPass_monitor, State.judged_monitor]
@[simp] theorem State.transmitted_stationNumber (s : State) (inp : StrobeInput) : (s.transmitted inp).stationNumber = s.stationNumber := by
  rw [State.transmitted, transmitPass_stationNumber, State.judged_stationNumber]
@[simp] theorem State.transmitted_echoMismatch (s : State) (inp : StrobeInput) : (s.transmitted inp).echoMismatch = (s.echoed inp).echoMismatch := by
  rw [State.transmitted, transmitPass_echoMismatch, State.judged_echoMismatch]
@[simp] theorem State.transmitted_resetCause (s : State) (inp : StrobeInput) : (s.transmitted inp).resetCause = s.resetCause := by
  rw [State.transmitted, transmitPass_resetCause, State.judged_resetCause]
@[simp] theorem State.transmitted_resets (s : State) (inp : StrobeInput) : (s.transmitted inp).resets = s.resets := by
  rw [State.transmitted, transmitPass_resets, State.judged_resets]
@[simp] theorem State.transmitted_lanes (s : State) (inp : StrobeInput) : (s.transmitted inp).lanes = (s.laned inp).lanes := by
  rw [State.transmitted, transmitPass_lanes, State.judged_lanes]
@[simp] theorem State.transmitted_directory (s : State) (inp : StrobeInput) : (s.transmitted inp).directory = (s.filed inp).directory := by
  rw [State.transmitted, transmitPass_directory, State.judged_directory]
@[simp] theorem State.transmitted_ports (s : State) (inp : StrobeInput) : (s.transmitted inp).ports = (s.cadenced inp).ports := by
  rw [State.transmitted, transmitPass_ports, State.judged_ports]
@[simp] theorem State.transmitted_levelA (s : State) (inp : StrobeInput) : (s.transmitted inp).levelA = (s.faulted inp).levelA := by
  rw [State.transmitted, transmitPass_levelA, State.judged_levelA]
@[simp] theorem State.transmitted_levelB (s : State) (inp : StrobeInput) : (s.transmitted inp).levelB = (s.faulted inp).levelB := by
  rw [State.transmitted, transmitPass_levelB, State.judged_levelB]
@[simp] theorem State.transmitted_mixes (s : State) (inp : StrobeInput) : (s.transmitted inp).mixes = (s.composed inp).mixes := by
  rw [State.transmitted, transmitPass_mixes, State.judged_mixes]
@[simp] theorem State.transmitted_link (s : State) (inp : StrobeInput) : (s.transmitted inp).link = s.link := by
  rw [State.transmitted, transmitPass_link, State.judged_link]
@[simp] theorem State.transmitted_events (s : State) (inp : StrobeInput) : (s.transmitted inp).events = s.events := by
  rw [State.transmitted, transmitPass_events, State.judged_events]
@[simp] theorem State.transmitted_overflow (s : State) (inp : StrobeInput) : (s.transmitted inp).overflow = s.overflow := by
  rw [State.transmitted, transmitPass_overflow, State.judged_overflow]
@[simp] theorem State.transmitted_capture (s : State) (inp : StrobeInput) : (s.transmitted inp).capture = s.capture := by
  rw [State.transmitted, transmitPass_capture, State.judged_capture]
@[simp] theorem State.transmitted_output (s : State) (inp : StrobeInput) : (s.transmitted inp).output = (s.returned inp).output := by
  rw [State.transmitted, transmitPass_output, State.judged_output]
@[simp] theorem State.transmitted_position (s : State) (inp : StrobeInput) : (s.transmitted inp).position = s.position := by
  rw [State.transmitted, transmitPass_position, State.judged_position]
@[simp] theorem State.transmitted_adout (s : State) (inp : StrobeInput) : (s.transmitted inp).adout = s.adout := by
  rw [State.transmitted, transmitPass_adout, State.judged_adout]
@[simp] theorem State.transmitted_freeCount (s : State) (inp : StrobeInput) : (s.transmitted inp).freeCount = s.freeCount := by
  rw [State.transmitted, transmitPass_freeCount, State.judged_freeCount]

/-! ## Each field after the strobe -/

theorem State.afterStrobe_pending (s : State) (inp : StrobeInput) (h : s.takesStrobes) :
    (s.afterStrobe inp).pending = s.pending := by
  rw [s.afterStrobe_taken inp h, State.raiseAll_pending, closeBlock_pending, State.transmitted_pending]
theorem State.afterStrobe_monitor (s : State) (inp : StrobeInput) (h : s.takesStrobes) :
    (s.afterStrobe inp).monitor = (s.noted inp).monitor := by
  rw [s.afterStrobe_taken inp h, State.raiseAll_monitor, closeBlock_monitor, State.transmitted_monitor]
theorem State.afterStrobe_stationNumber (s : State) (inp : StrobeInput) (h : s.takesStrobes) :
    (s.afterStrobe inp).stationNumber = s.stationNumber := by
  rw [s.afterStrobe_taken inp h, State.raiseAll_stationNumber, closeBlock_stationNumber, State.transmitted_stationNumber]
theorem State.afterStrobe_sequence (s : State) (inp : StrobeInput) (h : s.takesStrobes) :
    (s.afterStrobe inp).sequence = (s.transmitted inp).sequence := by
  rw [s.afterStrobe_taken inp h, State.raiseAll_sequence, closeBlock_sequence]
theorem State.afterStrobe_station (s : State) (inp : StrobeInput) (h : s.takesStrobes) :
    (s.afterStrobe inp).station = (s.transmitted inp).station := by
  rw [s.afterStrobe_taken inp h, State.raiseAll_station, closeBlock_station]
theorem State.afterStrobe_echoMismatch (s : State) (inp : StrobeInput) (h : s.takesStrobes) :
    (s.afterStrobe inp).echoMismatch = (s.echoed inp).echoMismatch := by
  rw [s.afterStrobe_taken inp h, State.raiseAll_echoMismatch, closeBlock_echoMismatch, State.transmitted_echoMismatch]
theorem State.afterStrobe_resetCause (s : State) (inp : StrobeInput) (h : s.takesStrobes) :
    (s.afterStrobe inp).resetCause = s.resetCause := by
  rw [s.afterStrobe_taken inp h, State.raiseAll_resetCause, closeBlock_resetCause, State.transmitted_resetCause]
theorem State.afterStrobe_resets (s : State) (inp : StrobeInput) (h : s.takesStrobes) :
    (s.afterStrobe inp).resets = s.resets := by
  rw [s.afterStrobe_taken inp h, State.raiseAll_resets, closeBlock_resets, State.transmitted_resets]
theorem State.afterStrobe_sent (s : State) (inp : StrobeInput) (h : s.takesStrobes) :
    (s.afterStrobe inp).sent = (s.transmitted inp).sent := by
  rw [s.afterStrobe_taken inp h, State.raiseAll_sent, closeBlock_sent]
theorem State.afterStrobe_lout (s : State) (inp : StrobeInput) (h : s.takesStrobes) :
    (s.afterStrobe inp).lout = (s.transmitted inp).lout := by
  rw [s.afterStrobe_taken inp h, State.raiseAll_lout, closeBlock_lout]
theorem State.afterStrobe_directory (s : State) (inp : StrobeInput) (h : s.takesStrobes) :
    (s.afterStrobe inp).directory = (s.filed inp).directory := by
  rw [s.afterStrobe_taken inp h, State.raiseAll_directory, closeBlock_directory, State.transmitted_directory]
theorem State.afterStrobe_ports (s : State) (inp : StrobeInput) (h : s.takesStrobes) :
    (s.afterStrobe inp).ports = (s.cadenced inp).ports := by
  rw [s.afterStrobe_taken inp h, State.raiseAll_ports, closeBlock_ports, State.transmitted_ports]
theorem State.afterStrobe_levelA (s : State) (inp : StrobeInput) (h : s.takesStrobes) :
    (s.afterStrobe inp).levelA = (s.faulted inp).levelA := by
  rw [s.afterStrobe_taken inp h, State.raiseAll_levelA, closeBlock_levelA, State.transmitted_levelA]
theorem State.afterStrobe_levelB (s : State) (inp : StrobeInput) (h : s.takesStrobes) :
    (s.afterStrobe inp).levelB = (s.faulted inp).levelB := by
  rw [s.afterStrobe_taken inp h, State.raiseAll_levelB, closeBlock_levelB, State.transmitted_levelB]
theorem State.afterStrobe_mixes (s : State) (inp : StrobeInput) (h : s.takesStrobes) :
    (s.afterStrobe inp).mixes = (s.composed inp).mixes := by
  rw [s.afterStrobe_taken inp h, State.raiseAll_mixes, closeBlock_mixes, State.transmitted_mixes]
theorem State.afterStrobe_history (s : State) (inp : StrobeInput) (h : s.takesStrobes) :
    (s.afterStrobe inp).history = (s.transmitted inp).history := by
  rw [s.afterStrobe_taken inp h, State.raiseAll_history, closeBlock_history]
theorem State.afterStrobe_link (s : State) (inp : StrobeInput) (h : s.takesStrobes) :
    (s.afterStrobe inp).link = s.link := by
  rw [s.afterStrobe_taken inp h, State.raiseAll_link, closeBlock_link, State.transmitted_link]
theorem State.afterStrobe_output (s : State) (inp : StrobeInput) (h : s.takesStrobes) :
    (s.afterStrobe inp).output = (s.returned inp).output := by
  rw [s.afterStrobe_taken inp h, State.raiseAll_output, closeBlock_output, State.transmitted_output]
theorem State.afterStrobe_adout (s : State) (inp : StrobeInput) (h : s.takesStrobes) :
    (s.afterStrobe inp).adout = s.adout := by
  rw [s.afterStrobe_taken inp h, State.raiseAll_adout, closeBlock_adout, State.transmitted_adout]

theorem State.afterStrobe_capture (s : State) (inp : StrobeInput) (h : s.takesStrobes) :
    (s.afterStrobe inp).capture = Vector.replicate 12 Block.zero := by
  rw [s.afterStrobe_taken inp h, State.raiseAll_capture]; rfl
theorem State.afterStrobe_position (s : State) (inp : StrobeInput) (h : s.takesStrobes) :
    (s.afterStrobe inp).position = 0 := by
  rw [s.afterStrobe_taken inp h, State.raiseAll_position]; rfl

/-- A lane after a taken strobe (R11 to R13). -/
theorem State.afterStrobe_lane (s : State) (inp : StrobeInput) (h : s.takesStrobes) (l : Fin 16) :
    (s.afterStrobe inp).lanes.get l
      = { laneAfter (s.lanes.get l) (s.blockFrame s.verdict l) with frame := none } := by
  rw [s.afterStrobe_taken inp h, State.raiseAll_lanes]
  simp only [closeBlock, Work.silent_st, State.mapLanes, tab_get, State.transmitted_lanes, State.laned, lanePass,
    State.closed_lanes, State.blockFrames]

/-- The directory after the delivery (R25 to R28). -/
theorem State.filed_directory (s : State) (inp : StrobeInput) (l c : Fin 16) :
    ((s.filed inp).directory.get l).get c
      = entryAfter (s.blockFrame s.verdict l) (goesAbsent (s.lanes.get l) (s.blockFrame s.verdict l)) c
          ((s.directory.get l).get c) := by
  simp only [State.filed, directoryPass, Work.silent_st, tab_get, State.blockFrames, State.absentLanes,
    State.laned_directory]

end Sys2Proof.Machine
end

