-- ==== Sys2Proof/Tests/Slice0.lean ====
section
/-! SUPPORT. Tests. The expected results are taken from the spec's worked examples and tables, named in each comment;
the witnesses show, for each statement that has hypotheses, operands and a state that meet them. -/

namespace Sys2Proof.Tests

open Sys2Proof Sys2Proof.Machine

/-! ## Helpers -/

/-- The state that a command leaves. -/
def after (o : Host.Outcome State Fault Refusal) : State :=
  match o with
  | .next t => t
  | _ => State.reset

/-- The response that a command leaves to be clocked out, from the mark on. -/
def reply (o : Host.Outcome State Fault Refusal) : List Byte :=
  match (after o).link.state with
  | .response _ rest => rest
  | _ => []

/-- A selection has begun and no byte is held. -/
def opened (s : State) : State :=
  { s with link := { state := .request [], selected := true, cdout := .driven none, cutCount := 0, resetArmed := false } }

/-- The part after reset, in a selection. -/
def fresh : State := opened State.reset

/-- A response on the link, with the link's other fields given. -/
def responding (rest : List Byte) (armed : Bool) : State :=
  { State.reset with link := { state := .response 3 rest, selected := true, cdout := .driven (some 0), cutCount := 65535
                               resetArmed := armed } }

/-- The part after reset in another station state. -/
def inState (st : Station) : State := { State.reset with station := st }

/-- One port of the part changed. -/
def withPort (s : State) (p : Fin 8) (f : Port → Port) : State := s.updPort p f

/-- A frame of the block on a lane. -/
def withFrame (s : State) (l : Fin 16) (bytes : List Byte) (cls : FrameClass) : State :=
  s.updLane l fun lane => { lane with frame := some { bytes := bytes, cls := cls } }

/-- A FINAL frame of station 9 with sequence 40,012. -/
def finalFrame : List Byte := frameBytes 9 40012 finalContent

/-- A NORMAL frame of station 9 with sequence 41 and two wants for port 0 of station 0. -/
def wantFrame : List Byte :=
  frameBytes 9 41 { kind := 1, shown := [], withdrawing := false, descriptors := [], records := [], samples := []
                    wants := [(tagOfByte 0x9C, tagOfByte 0x00), (tagOfByte 0x9D, tagOfByte 0x00)] }

/-- A strobe at an instant, with both fault inputs negated. -/
def strobe (instant : Nat) : StrobeInput := { instant := instant, faultA := false, faultB := false }

/-- The end of a reset at instant 7, with the straps of station 6. -/
def ended : ResetEnd := { instant := 7, straps := 6 }

/-! ## WellFormed refuses what no sender can put -/

theorem test_wf_unknown_code : WellFormed (.unknownRequest 5 []) = false := by decide
theorem test_wf_unknown_args : WellFormed (.unknownRequest 30 (List.replicate 256 0)) = false := by
  simp only [WellFormed, argsFit, List.length_replicate]; decide
theorem test_wf_request_args : WellFormed (.setPad (List.replicate 256 0)) = false := by
  simp only [WellFormed, argsFit, List.length_replicate]; decide
theorem test_wf_withdraw_normal : WellFormed (.withdrawNormal [1]) = false := by decide
theorem test_wf_withdraw_forced : WellFormed (.withdrawForced [0]) = false := by decide
theorem test_wf_slot_end : WellFormed (.frameComplete 0 [] .atSlotEnd) = false := by decide
theorem test_wf_cut_off : WellFormed (.frameComplete 0 (List.replicate 2304 0) .cutOff) = false := by
  simp only [WellFormed, List.length_replicate]; decide
theorem test_wf_at_length : WellFormed (.frameComplete 0 (List.replicate 2305 0) .atLength) = false := by
  simp only [WellFormed, List.length_replicate]; decide

/-! ## Codes and messages (R174, R179) -/

/-- R179: STATUS is 1, READ EVENT is 5, SET STATE is 11, SET MINUS is 18 and MIX QUERY is 29. -/
theorem test_codes :
    commandOfMessage 1 [] = .status [] ∧ commandOfMessage 5 [] = .readEvent [] ∧ commandOfMessage 11 [] = .setState []
    ∧ commandOfMessage 18 [] = .setMinus [] ∧ commandOfMessage 29 [] = .mixQuery [] := by decide

/-- R174: 0xFF names 15.15; 0x34 names 3.4, a PARTY; 0x7C names 7.12, a MIX (11.3). -/
theorem test_tags :
    tagOfByte 0xFF = { station := 15, channel := 15 } ∧ tagOfByte 0x34 = { station := 3, channel := 4 }
    ∧ (tagOfByte 0x34).kind = .party ∧ (tagOfByte 0x39).kind = .feed ∧ (tagOfByte 0x7C).kind = .mix := by decide

/-- 11.3: position 0 of channel 12 is 5,232,117, sent as 0x004FD5F5. -/
theorem test_sample_bytes : be4Signed 5232117 = [0x00, 0x4F, 0xD5, 0xF5] ∧ int4 0xFF 0xFF 0xFF 0xFF = -1 := by decide

/-- 11.3: the header of frame 221 of station 7: map 0x1F00, two wants, one record, length 384. -/
theorem test_header :
    headerBytes 7 221 { kind := 1, shown := [8, 9, 10, 11, 12], withdrawing := false, descriptors := []
                        wants := [(tagOfByte 0x7C, tagOfByte 0x32), (tagOfByte 0x7C, tagOfByte 0xC5)]
                        records := [{ channel := 12, stamps := [], terms := [], clip := false }], samples := [] } 384
      = [7, 1, 0x00, 0xDD, 0x1F, 0x00, 0, 2, 1, 0, 0x01, 0x80, 0, 0] := by decide

/-- 11.3: the record of frame 221: stamps 5,001 and 220; the terms of stations 3 and 7. -/
theorem test_record :
    recordBytes { channel := 12, stamps := [(3, 5001), (7, 220)], clip := false
                  terms := [(tagOfByte 0x32, 8192), (tagOfByte 0x78, 5793), (tagOfByte 0x79, 16384)] }
      = [12, 3, 2, 0, 0x13, 0x89, 0x00, 0xDC, 0x32, 0, 0x20, 0x00, 0x78, 0, 0x16, 0xA1, 0x79, 0, 0x40, 0x00] := by decide

set_option maxRecDepth 20000 in
/-- R177: the register of the header check over the nine bytes "123456789" is 0x29B1 (the catalogued check value of a
16-bit check with this generator and starting value, PRESUMED from outside the spec). -/
theorem test_header_check : headerCheck [0x31, 0x32, 0x33, 0x34, 0x35, 0x36, 0x37, 0x38, 0x39] = 0x29B1 := by decide

/-! ## Sample arithmetic -/

/-- R40: with 4,096, 3 gives 2 and -3 gives -1. 8.5: 5,232,117 at 2,048 gives 1,308,029 and at 512 gives 327,007, and
the ducked gain of 2,048 at 2,048 is 512. -/
theorem test_rounded :
    roundedProduct 3 4096 = 2 ∧ roundedProduct (-3) 4096 = -1 ∧ roundedProduct 5232117 2048 = 1308029
    ∧ roundedProduct 5232117 512 = 327007 ∧ duckedGain 2048 2048 = 512 := by decide

/-- R49: pad 1 gives 3, -2 and -3 for 5, -5 and -7. -/
theorem test_pad : padded 1 5 = 3 ∧ padded 1 (-5) = -2 ∧ padded 1 (-7) = -3 := by decide

/-! ## Link and station requests -/

theorem test_select : (after (exec (.select []) State.reset)).link.state = .request [] := by decide
/-- R159: a request cut after its first byte is counted. -/
theorem test_select_cut :
    (after (exec (.deselect []) (after (exec (.select [11]) State.reset)))).link.cutCount = 1 := by decide
/-- R157: codes 0 and 30 to 255 are UNKNOWN (7). -/
theorem test_unknown : reply (exec (.unknownRequest 30 [1, 2]) fresh) = [0xA5, 7, 0] := by decide
/-- R160: a wrong argument length is BAD_ARGUMENT (6). -/
theorem test_bad_length : reply (exec (.setPad [1]) fresh) = [0xA5, 6, 0] := by decide
/-- 10.7: RUNNING, station 6, sequence 5, cause PIN, TIMED, echo count 0, no event queued. -/
theorem test_status :
    reply (exec (.status []) { fresh with station := .running, stationNumber := 6, sequence := 5, resetCause := .pin })
      = [0xA5, 0, 24, 1, 6, 0, 5, 1, 0, 0, 0, 0, 0, 0, 0, 0, 0, 0, 0, 0, 0, 0, 0, 0, 0, 0, 0] := by decide
/-- R180: an optional field takes its presence byte: the withdrawal timer 29,999 (0x752F). -/
theorem test_status_timer :
    (statusData (inState (.withdrawing 29999))).take 12 = [2, 0, 0, 0, 0, 0, 0, 0, 0, 1, 0x75, 0x2F] := by decide
/-- R165: the reset begins when the response has gone, and not at acceptance. -/
theorem test_station_reset :
    (after (exec (.stationReset []) fresh)).inReset = false
    ∧ (after (exec .responseEnd (after (exec (.stationReset []) fresh)))).resets.command = true := by decide
theorem test_clear_counts :
    ((after (exec (.clearCounts []) (withPort fresh 3 fun q => { q with misses := 9, missReported := true }))).ports.get
      3).misses = 0 := by decide
/-- R180: PRESENT is 2; the previous sequence 5 follows its presence byte. -/
theorem test_lane_stats :
    reply (exec (.laneStats [2]) (fresh.updLane 2 fun l => { l with receive := .present 5, good := 258 }))
      = [0xA5, 0, 18, 2, 1, 0, 5, 0, 0, 0, 0, 1, 2, 0, 0, 0, 0, 0, 0, 0, 0] := by decide
/-- 10.7: LANE_PRESENT, seq 0, lane 2, detail 40,012 (0x9C4C), mark clear. -/
theorem test_read_event :
    reply (exec (.readEvent []) { fresh with events := [{ event := .lanePresent 2 40012, sequence := 0 }] })
      = [0xA5, 0, 7, 1, 0, 0, 2, 0x9C, 0x4C, 0] := by decide
/-- 10.7: on the empty queue NOT_FOUND (5), mark clear. -/
theorem test_read_event_empty : reply (exec (.readEvent []) fresh) = [0xA5, 5, 1, 0] := by decide
theorem test_withdraw_normal :
    (after (exec (.withdrawNormal [0]) (opened (inState .running)))).station = .withdrawing 0 := by decide
theorem test_withdraw_forced :
    (after (exec (.withdrawForced [1]) (opened (inState (.withdrawing 7))))).station = .closing .forced 0 := by decide
theorem test_rejoin :
    (after (exec (.rejoin []) (opened (inState (.withdrawn none))))).station = .starting none false := by decide
theorem test_lane_test_refused : reply (exec (.laneTest []) (opened (inState .running))) = [0xA5, 2, 0] := by decide

/-- A fresh FEED entry of sequence 5,001. -/
def feedEntry : Entry := Entry.mk 5001 true 0 Block.zero .feed

/-- A directory with one FEED entry, under 3.9. -/
def listed : State :=
  { fresh with directory := upd fresh.directory 3 (fun entries => upd entries 9 (fun _ => some feedEntry)) }

/-- R33: bit c of the map is set for channel c: 0x0200 for channel 9, in the fourth place. -/
theorem test_directory_list :
    (reply (exec (.directoryList []) listed)).take 13 = [0xA5, 0, 32, 0, 0, 0, 0, 0, 0, 0x02, 0x00, 0, 0] := by decide
/-- R180: FEED 1, sequence 5,001 (0x1389), fresh, age 0. -/
theorem test_directory_query :
    reply (exec (.directoryQuery [0x39]) listed) = [0xA5, 0, 6, 1, 0x13, 0x89, 1, 0, 0] := by decide

/-! ## Port requests -/

/-- R96: leaving AIR puts the holder at the head of the queue. -/
theorem test_set_state_leaves_air :
    ((after (exec (.setState [4, 2]) (withPort fresh 4 fun q =>
      { q with state := .air, holder := some (tagOfByte 0x7C), queue := [tagOfByte 0x9C] }))).ports.get 4).queue
      = [tagOfByte 0x7C, tagOfByte 0x9C] := by decide
/-- R54: an OUT_OF_SERVICE port is REFUSED (2). -/
theorem test_set_state_refused :
    reply (exec (.setState [4, 3]) (withPort fresh 4 fun q => { q with state := .outOfService })) = [0xA5, 2, 0] := by
  decide
theorem test_port_clear :
    ((after (exec (.portClear [4]) (withPort fresh 4 fun q => { q with state := .air, talkback := true }))).ports.get
      4).state = .idle := by decide
/-- R62: the number of ports restored is the data. -/
theorem test_group_restore :
    reply (exec (.groupRestore [1]) (withPort fresh 4 fun q => { q with state := .outOfService })) = [0xA5, 0, 1, 1] := by
  decide
/-- R68: a host value of 0 is stored as 1 and ADJUSTED (1). -/
theorem test_set_monitor :
    reply (exec (.setMonitor [0, 3, 0, 0, 0, 0]) fresh) = [0xA5, 1, 0]
    ∧ ((after (exec (.setMonitor [0, 3, 0, 0, 0, 0]) fresh)).ports.get 0).threshold = 1 := by decide
/-- R180: 45 bytes for a port with empty lists, beginning IDLE, group A, MID, 131,072. -/
theorem test_port_query :
    (reply (exec (.portQuery [0]) fresh)).take 9 = [0xA5, 0, 45, 0, 0, 1, 0x02, 0x00, 0x00] := by decide
/-- R108: a port's own tag as a direct entry is a CONFLICT (3). -/
theorem test_set_entry_conflict : reply (exec (.setEntry [4, 1, 0x04, 0x20, 0]) fresh) = [0xA5, 3, 0] := by decide
set_option maxRecDepth 20000 in
theorem test_set_entry :
    ((after (exec (.setEntry [4, 1, 0x7C, 0x08, 0]) fresh)).ports.get 4).holdRecipe
      = [{ tag := tagOfByte 0x7C, gain := 2048 }] := by decide
theorem test_remove_entry : reply (exec (.removeEntry [4, 1, 0x7C]) fresh) = [0xA5, 5, 0] := by decide
/-- R110: a tag given twice is stored once, the own tag not at all. -/
theorem test_set_minus :
    ((after (exec (.setMinus [4, 0x09, 0x04, 0x09]) fresh)).ports.get 4).extras = [tagOfByte 0x09] := by decide
theorem test_set_pad :
    reply (exec (.setPad [0, 9]) fresh) = [0xA5, 1, 0]
    ∧ ((after (exec (.setPad [0, 9]) fresh)).ports.get 0).pad = 6 := by decide

/-- Station 3 of the worked sequence of 8.5. -/
def station3 : State := { fresh with stationNumber := 3 }

/-- 8.5: source 3.13 is a MIX tag: CONFLICT. -/
theorem test_set_talkback_conflict :
    reply (exec (.setTalkback [4, 1, 0x3D, 0x20, 0x00, 0x08, 0x00]) station3) = [0xA5, 3, 0] := by decide
/-- 8.5: source 3.9, gain 50,000: ADJUSTED, gain 32,768 stored. -/
theorem test_set_talkback :
    reply (exec (.setTalkback [4, 1, 0x39, 0xC3, 0x50, 0x08, 0x00]) station3) = [0xA5, 1, 0]
    ∧ ((after (exec (.setTalkback [4, 1, 0x39, 0xC3, 0x50, 0x08, 0x00]) station3)).ports.get 4).talkGain = 32768 := by
  decide
theorem test_talkback_on_refused : reply (exec (.talkbackOn [4]) fresh) = [0xA5, 2, 0] := by decide
theorem test_talkback_off : reply (exec (.talkbackOff [4]) fresh) = [0xA5, 0, 0] := by decide
/-- R135: the on-time is judged against the period as stored: period 1 is stored as 2, on-time 5 as 1. -/
theorem test_set_cadence :
    let q := (after (exec (.setCadence [4, 0, 1, 0, 5, 1, 0x86, 0xA0]) fresh)).ports.get 4
    q.period = 2 ∧ q.onTime = 1 ∧ q.amplitude = 100000 ∧ q.counter = 0 := by decide

/-! ## Mix requests -/

set_option maxRecDepth 20000 in
theorem test_set_term :
    ((after (exec (.setTerm [0, 0x32, 0x20, 0x00]) fresh)).mixes.get 0).terms
      = [{ tag := tagOfByte 0x32, coefficient := 8192, status := some .unheard }] := by decide
theorem test_set_term_mix_tag : reply (exec (.setTerm [0, 0x7C, 0x20, 0x00]) fresh) = [0xA5, 3, 0] := by decide
theorem test_remove_term : reply (exec (.removeTerm [0, 0x32]) fresh) = [0xA5, 5, 0] := by decide
theorem test_clear_mix : reply (exec (.clearMix [4]) fresh) = [0xA5, 6, 0] := by decide
theorem test_mix_on : ((after (exec (.mixOn [3]) fresh)).mixes.get 3).live = true := by decide
theorem test_mix_off :
    ((after (exec (.mixOff [3]) (fresh.updMix 3 fun x => { x with live := true }))).mixes.get 3).live = false := by decide
theorem test_mix_query : reply (exec (.mixQuery [1]) fresh) = [0xA5, 0, 5, 0, 0, 0, 0, 0] := by decide

/-! ## Resets -/

theorem test_power_on_reset : (after (exec .powerOnReset (inState .running))).lout = .released := by decide
/-- R4: the straps are read at the end of the reset. -/
theorem test_power_on_release :
    (after (exec (.powerOnRelease ended) { State.reset with resets := { power := true, pin := false, command := false } }
      )).stationNumber = 6 := by decide
theorem test_reset_pin : (after (exec .resetPinAssert State.reset)).resets.pin = true := by decide
/-- 10.7: RESET_N released after the command reset's end: the cause is PIN. -/
theorem test_reset_cause :
    (after (exec (.resetPinNegate ended) (after (exec (.commandResetExpiry ended)
      { State.reset with resets := { power := false, pin := true, command := true } })))).resetCause = .pin := by decide
/-- 10.7: the selection's end begins the reset. -/
theorem test_command_reset_begin :
    (after (exec (.commandResetBegin (.selectionEnds [])) (responding [1, 2] true))).resets.command = true := by decide
/-- 10.7: CSEL_N kept asserted: the link ends the reset in BARRED. -/
theorem test_command_reset_expiry :
    (after (exec (.commandResetExpiry ended) { fresh with resets := { power := false, pin := false, command := true } }
      )).link.state = .barred := by decide

/-! ## Frames, samples and time -/

theorem test_frame_start :
    (after (exec (.frameStart 0) State.reset)).station = .starting none true := by decide
set_option maxRecDepth 20000 in
/-- R9: a whole FINAL frame of station 9 is a good frame of lane 9 and a station mismatch on lane 8. -/
theorem test_frame_complete :
    ((after (exec (.frameComplete 9 finalFrame .atLength) (State.reset.updLane 9 fun l => { l with receiving := true })
      )).lanes.get 9).good = 1 := by decide
set_option maxRecDepth 20000 in
theorem test_frame_mismatch :
    ((after (exec (.frameComplete 8 finalFrame .atLength) (State.reset.updLane 8 fun l => { l with receiving := true })
      )).lanes.get 8).stationMismatches = 1 := by decide
/-- R178: the first 24 bits of slot 0, most significant first, at position 0. -/
theorem test_sample_frame :
    ((after (exec (.sampleFrame (Vector.replicate 16 0xFFFFFE7F)) State.reset)).capture.get 0).get 0 = -2 := by decide
/-- R2: the fourth missing strobe is a loss. -/
theorem test_strobe_missing :
    (after (exec .strobeMissing { State.reset with monitor := { State.reset.monitor with missed := 2 } })).monitor.missed
      = 3 := by decide
theorem test_strobe_loss :
    (after (exec .strobeLoss { inState .running with monitor := { State.reset.monitor with missed := 3 } })).station
      = .untimed := by decide

/-- The monitor in LOST, three correct intervals after its first strobe at instant 0. -/
def lost (run : Nat) : Monitor := { condition := .lost, reference := some 0, missed := 4, goodRun := run }

theorem test_good_run_timeout :
    (after (exec .goodRunTimeout { State.reset with monitor := lost 2 })).monitor.reference = none := by decide
/-- R3: the fourth correct interval brings TIMED back; 65/64 of a block is still correct. -/
theorem test_strobe_run_complete :
    (after (exec (.strobeRunComplete (strobe 66560)) { inState .untimed with monitor := lost 3 })).station
      = .starting (some 0) false := by decide
theorem test_interval_too_long : correctInterval 0 66561 = false ∧ correctInterval 0 64512 = true := by decide

/-! ## Strobes -/

/-- R19: the first strobe begins the listen window. -/
theorem test_block_strobe :
    (after (exec (.blockStrobe (strobe 65536)) State.reset)).station = .starting (some 0) false := by decide
/-- R19: the sixteenth quiet strobe enters RUNNING; 10.7: STATION_RUNNING with detail 0 and seq 1. -/
theorem test_listen_complete :
    (after (exec (.listenComplete (strobe 65536)) (inState (.starting (some 15) false)))).events
      = [{ event := .stationRunning 0, sequence := 1 }] := by decide
/-- R11: the third consecutive valid frame makes the lane PRESENT. -/
theorem test_acquire_complete :
    ((after (exec (.acquireComplete (strobe 65536) 9)
      (withFrame (State.reset.updLane 9 fun l => { l with receive := .acquiring 40011 2 }) 9 finalFrame .good))).lanes.get
      9).receive = .present 40012 := by decide
theorem test_miss_limit :
    (after (exec (.missLimit (strobe 65536) 9) (State.reset.updLane 9 fun l => { l with receive := .lapsed 77 7 }))).events
      = [{ event := .laneLost 9 77, sequence := 0 }] := by decide
theorem test_echo_mismatch_limit :
    (after (exec (.echoMismatchLimit (strobe 65536)) { inState .running with sent := some [1], echoMismatch := 2 })).station
      = .conflict := by decide
/-- R66: the six-hundredth quiet block arms the port. -/
theorem test_quiet_run_complete :
    ((after (exec (.quietRunComplete (strobe 65536) 2)
      (withPort State.reset 2 fun q => { q with state := .hold, quiet := 599 }))).ports.get 2).armed = true := by decide

/-- A WITHDRAWING station whose port 0 is held by 9.12, lane 9 being PRESENT. -/
def heldBack (timer : Nat) : State :=
  (withPort (inState (.withdrawing timer)) 0 fun q => { q with state := .air, holder := some (tagOfByte 0x9C) }).updLane 9
    fun l => { l with receive := .present 40 }

theorem test_withdrawal_timer_expiry :
    (after (exec (.withdrawalTimerExpiry (strobe 65536)) (heldBack 29999))).station = .running := by decide
theorem test_final_count_complete :
    (after (exec (.finalCountComplete (strobe 65536)) (inState (.closing .normal 8)))).events
      = [{ event := .withdrawDone .normal 8, sequence := 0 }] := by decide

/-- A lane test of which three echoes are judged and four frames sent. -/
def testing : LaneTest := { sent := 4, judged := 3, missing := 0, differing := 0 }

/-- R153: the last echo missing: NO_ECHO, with three matched echoes. -/
theorem test_lane_test_complete :
    (after (exec (.laneTestComplete (strobe 65536)) (inState (.withdrawn (some testing))))).events
      = [{ event := .testDone 0 .noEcho 3, sequence := 0 }] := by decide

/-- R94: the wants of one frame join the queue of a port in SCREEN in ascending mix channel. -/
theorem test_strobe_queues :
    ((after (exec (.blockStrobe (strobe 65536))
      (withFrame (withPort (inState .running) 0 fun q => { q with state := .screen }) 9 wantFrame .good))).ports.get 0).queue
      = [tagOfByte 0x9C, tagOfByte 0x9D] := by decide

/-! ## Witnesses: the machine, the resets and the link -/

theorem fresh_ready : fresh.ready := ⟨rfl, rfl⟩
theorem reset_takes : State.reset.takesStrobes := ⟨rfl, by decide⟩

/-- A state held in some resets. -/
def held (power pin command : Bool) : State :=
  { State.reset with resets := { power := power, pin := pin, command := command } }

theorem witness_StepTakesTheFrontCommand :
    ({ State.reset with pending := [.strobeMissing, .powerOnReset] } : State).pending = .strobeMissing :: [.powerOnReset]
    ∧ State.reset.pending = [] := ⟨rfl, rfl⟩

/-- The link's cut count stands at its top, 65,535. -/
theorem witness_ResetsBegin :
    (responding [0] true).inReset = false ∧ (responding [0] true).link.resetArmed = true
    ∧ (responding [0] true).link.selected = true ∧ (responding [0] true).link.state = .response 3 [0]
    ∧ (∀ b bytes, (responding [0] true).link.state ≠ .request (b :: bytes)) ∧ (responding [0] true).link.cutCount ≤ 65535 :=
  ⟨rfl, rfl, rfl, rfl, (by intro b bytes h; cases h), by decide⟩

theorem witness_ResetsEnd :
    (held true false false).resets = { power := true, pin := false, command := false }
    ∧ (held false true false).resets = { power := false, pin := true, command := false }
    ∧ (held false false true).resets = { power := false, pin := false, command := true } := ⟨rfl, rfl, rfl⟩

theorem witness_OverlappingResetsMakeOne :
    (held false true false).inReset = true ∧ (held false true false).resets.power = false
    ∧ (held false false true).inReset = true ∧ (held false false true).resets.pin = false
    ∧ (held true true true).inReset = true ∧ (held true true true).resets.power = true
    ∧ ((held true true true).resets.pin || (held true true true).resets.command) = true
    ∧ (held true true true).resets.pin = true
    ∧ ((held true true true).resets.power || (held true true true).resets.command) = true
    ∧ (held true true true).resets.command = true
    ∧ ((held true true true).resets.power || (held true true true).resets.pin) = true
    ∧ requestOf (.setPad [0, 6]) = some (19, [0, 6]) := by decide

/-- A selection whose request has its first byte, the cut count one short of its top. -/
def begun : State :=
  { State.reset with link := { state := .request [11], selected := true, cdout := .driven none, cutCount := 65534
                               resetArmed := false } }

theorem witness_SelectionsOpenAndClose :
    State.reset.inReset = false ∧ State.reset.link.selected = false ∧ begun.inReset = false
    ∧ begun.link.selected = true ∧ begun.link.resetArmed = false ∧ begun.link.cutCount ≤ 65535
    ∧ (65535 = match begun.link.state with
        | .request (_ :: _) => min 65535 (begun.link.cutCount + 1)
        | _ => begun.link.cutCount)
    ∧ State.reset.link.state = .deselected ∧ (responding [] false).inReset = false
    ∧ ({ fresh with link := { fresh.link with state := .drain } } : State).link.state = .drain
    ∧ ([0] : List Byte) ≠ [] ∧ begun.link.state = .request [11] ∧ messageComplete ([11] ++ [2, 3]) = false
    ∧ messageComplete ([11] ++ [2, 3, 4]) = true ∧ (held true false false).inReset = true
    ∧ (held true false false).link.selected = false
    ∧ ({ held true false false with link := begun.link } : State).link.selected = true := by decide

theorem witness_ResponsesClockOut :
    (responding [0xA5, 0, 0] false).inReset = false ∧ (responding [0xA5, 0, 0] false).link.resetArmed = false
    ∧ (responding [0xA5, 0, 0] false).link.state = .response 3 [0xA5, 0, 0] ∧ ([0xA5, 0, 0] : List Byte) ≠ []
    ∧ ([1, 2, 3, 4, 5, 6] : List Byte).length = 3 + ([0xA5, 0, 0] : List Byte).length
    ∧ ([] : List Byte).length < 3 + ([0xA5, 0, 0] : List Byte).length
    ∧ ([1, 2, 3, 4, 5] : List Byte).length < 3 + ([0xA5, 0, 0] : List Byte).length
    ∧ ([1, 2, 3, 4] : List Byte).length + 1 < 3 + ([0xA5, 0, 0] : List Byte).length
    ∧ 3 + ([0xA5, 0, 0] : List Byte).length ≤ ([1, 2, 3, 4, 5, 6] : List Byte).length
    ∧ (responding [0xA5, 0, 0] false).link.selected = true
    ∧ (responding [0xA5, 0, 0] false).link.cutCount ≤ 65535 := by decide

theorem witness_RequestsAreTheirMessages :
    WellFormed (.withdrawForced [1]) = true ∧ requestOf (.withdrawForced [1]) = some (6, [1])
    ∧ WellFormed (.unknownRequest 30 []) = true ∧ requestOf (.unknownRequest 30 []) = some (30, [])
    ∧ (List.replicate 255 (0 : Byte)).length ≤ 255 := by
  refine ⟨by decide, by decide, by decide, by decide, ?_⟩
  rw [List.length_replicate]

/-- Codes 0, 30 and 255 name no request; codes 1 and 29 do, and take no such lengths. -/
theorem witness_FaultyRequestsChangeNothing :
    fresh.ready ∧ ([] : List Byte).length ≤ 255 ∧ (0 : Byte).toNat = 0 ∧ 30 ≤ (30 : Byte).toNat ∧ 30 ≤ (255 : Byte).toNat
    ∧ 1 ≤ (1 : Byte).toNat ∧ (1 : Byte).toNat ≤ 29 ∧ ([0] : List Byte).length ∉ argLengths (1 : Byte).toNat
    ∧ 1 ≤ (29 : Byte).toNat ∧ (29 : Byte).toNat ≤ 29 ∧ ([] : List Byte).length ∉ argLengths (29 : Byte).toNat :=
  ⟨fresh_ready, by decide⟩

theorem witness_QueriesAnswerAndChangeNothing :
    listed.ready ∧ (15 : Byte).toNat = (15 : Fin 16).val ∧ 16 ≤ (16 : Byte).toNat
    ∧ listed.entry (tagOfByte 0x39) = some feedEntry ∧ listed.entry (tagOfByte 0x38) = none
    ∧ (7 : Byte).toNat = (7 : Fin 8).val ∧ 8 ≤ (8 : Byte).toNat ∧ (3 : Byte).toNat = (3 : Fin 4).val
    ∧ 4 ≤ (4 : Byte).toNat ∧ (inState (.withdrawing 29999)).station = .withdrawing 29999
    ∧ Lane.reset.receive = .absent ∧ feedEntry.body = .feed
    ∧ ([⟨tagOfByte 0x9C, 8192⟩] : List RecipeEntry)[0]? = some ⟨tagOfByte 0x9C, 8192⟩ := ⟨⟨rfl, rfl⟩, by decide⟩

theorem witness_StationResetWaitsForItsResponse : fresh.ready ∧ fresh.link.selected = true := ⟨fresh_ready, rfl⟩

theorem witness_ClearCountsZeroesTheCounts : fresh.ready := fresh_ready

/-- The part with `n` records in its queue. -/
def queued (n : Nat) : State :=
  { fresh with events := List.replicate n { event := .groupFault .b 4, sequence := 0 } }

theorem witness_ReadEventTakesTheOldest :
    fresh.ready ∧ fresh.events = [] ∧ (queued 1).ready
    ∧ (queued 1).events = { event := .groupFault .b 4, sequence := 0 } :: [] :=
  ⟨fresh_ready, rfl, ⟨rfl, rfl⟩, rfl⟩

theorem witness_ReadAndRaiseInBothOrders :
    fresh.ready ∧ fresh.events = [] ∧ (queued 31).ready ∧ (queued 31).events.length < 32
    ∧ (queued 31).events = { event := .groupFault .b 4, sequence := 0 } :: (queued 30).events
    ∧ (queued 32).ready ∧ (queued 32).events.length = 32
    ∧ (queued 32).events = { event := .groupFault .b 4, sequence := 0 } :: (queued 31).events :=
  ⟨fresh_ready, rfl, ⟨rfl, rfl⟩, by decide, rfl, ⟨rfl, rfl⟩, by decide, rfl⟩

/-! ## Witnesses: the requests -/

theorem witness_WithdrawMovesTheStation :
    (opened (inState .running)).ready ∧ (opened (inState .running)).station = .running ∧ fresh.ready
    ∧ fresh.station ≠ .running ∧ 2 ≤ (2 : Byte).toNat ∧ (opened (inState (.withdrawing 3))).ready
    ∧ (opened (inState (.withdrawing 3))).station = .withdrawing 3 ∧ ∀ timer, fresh.station ≠ .withdrawing timer :=
  ⟨⟨rfl, rfl⟩, rfl, fresh_ready, by decide, by decide, ⟨rfl, rfl⟩, rfl, (by intro timer h; cases h)⟩

theorem witness_RejoinAndLaneTestStart :
    (opened (inState (.withdrawn none))).ready ∧ (opened (inState (.withdrawn none))).station = .withdrawn none
    ∧ (opened (inState (.withdrawn none))).monitor.condition = .timed ∧ fresh.ready ∧ fresh.station ≠ .withdrawn none :=
  ⟨⟨rfl, rfl⟩, rfl, rfl, fresh_ready, by decide⟩

theorem witness_SetStateChangesThePort :
    fresh.ready ∧ (7 : Byte).toNat = (7 : Fin 8).val ∧ 4 ≤ (4 : Byte).toNat ∧ 8 ≤ (8 : Byte).toNat
    ∧ ((0 : Byte).toNat = 0 ∧ (3 : Byte).toNat = 3) ∧ (opened (inState (.closing .normal 0))).stationName = .closing
    ∧ fresh.stationName ≠ .closing ∧ fresh.stationName ≠ .withdrawn ∧ (fresh.ports.get 7).state ≠ .outOfService
    ∧ (fresh.ports.get 7).state = .idle ∧ (fresh.ports.get 7).state ≠ .air := ⟨fresh_ready, by decide⟩

theorem witness_PortClearKeepsSettings :
    fresh.ready ∧ (7 : Byte).toNat = (7 : Fin 8).val ∧ 8 ≤ (8 : Byte).toNat := ⟨fresh_ready, by decide⟩

/-- Group B with one port out of service. -/
def outB : State := withPort fresh 4 fun q => { q with state := .outOfService }

theorem witness_GroupRestoreReturnsThePorts :
    outB.ready ∧ 2 ≤ (2 : Byte).toNat
    ∧ 1 = ((List.finRange 8).filter fun p =>
        (decide (p.val < 4) == (Machine.Group.b == .a)) && (outB.ports.get p).state == .outOfService).length
    ∧ (if Machine.Group.b = .a then outB.levelA else outB.levelB) = false ∧ fresh.ready
    ∧ 0 = ((List.finRange 8).filter fun p =>
        (decide (p.val < 4) == (Machine.Group.a == .a)) && (fresh.ports.get p).state == .outOfService).length :=
  ⟨⟨rfl, rfl⟩, by decide, by decide, by decide, fresh_ready, by decide⟩

/-- The clamp's bounds: a host value of 0 and of 8,388,608. -/
theorem witness_SetMonitorStoresTheThreshold :
    fresh.ready ∧ (7 : Byte).toNat = (7 : Fin 8).val
    ∧ 8388608 = (0x80 : Byte).toNat * 65536 + (0 : Byte).toNat * 256 + (0 : Byte).toNat ∧ (1 : Byte).toNat ≤ 1
    ∧ ((3 : Byte).toNat = 3
      ∧ 8388607 = if 8388608 = 0 then 1 else if 8388607 < 8388608 then 8388607 else 8388608)
    ∧ 4 ≤ (4 : Byte).toNat ∧ 2 ≤ (2 : Byte).toNat ∧ 8 ≤ (8 : Byte).toNat := ⟨fresh_ready, by decide⟩

/-- Port 4 with a full SCREEN recipe. -/
def fullRecipe : State :=
  withPort fresh 4 fun q => { q with screenRecipe := (List.finRange 6).map fun i =>
    { tag := { station := 9, channel := ⟨i.val, by omega⟩ }, gain := 8192 } }

/-- The gain at its bound and one above; the own tag 0.4 in the minus set; a listed tag, and a new one. -/
theorem witness_SetEntryEditsTheRecipe :
    fullRecipe.ready ∧ (4 : Byte).toNat = (4 : Fin 8).val
    ∧ 32769 = (0x80 : Byte).toNat * 256 + (1 : Byte).toNat ∧ 32768 = min 32768 32769
    ∧ ((tagOfByte 0x04).kind ≠ .mix ∧ tagOfByte 0x04 ∈ fullRecipe.minusSet 4)
    ∧ tagOfByte 0x95 ∉ fullRecipe.minusSet 4
    ∧ tagOfByte 0x95 ∈ ((fullRecipe.ports.get 4).screenRecipe).map (·.tag)
    ∧ tagOfByte 0x96 ∉ fullRecipe.minusSet 4
    ∧ tagOfByte 0x96 ∉ ((fullRecipe.ports.get 4).screenRecipe).map (·.tag)
    ∧ 6 ≤ ((fullRecipe.ports.get 4).screenRecipe).length ∧ ((fullRecipe.ports.get 4).holdRecipe).length < 6
    ∧ tagOfByte 0x96 ∉ ((fullRecipe.ports.get 4).holdRecipe).map (·.tag)
    ∧ 8 ≤ (8 : Byte).toNat ∧ 3 ≤ (3 : Byte).toNat := ⟨⟨rfl, rfl⟩, by decide⟩

/-- Three tags, one of them twice; and a MIX tag. -/
theorem witness_SetMinusReplacesTheExtras :
    fresh.ready ∧ (4 : Byte).toNat = (4 : Fin 8).val ∧ ([0x09, 0x04, 0x09] : List Byte).length ≤ 3
    ∧ (∃ t ∈ ([0x0C] : List Byte).map tagOfByte, t.kind = .mix)
    ∧ (∀ t ∈ ([0x09, 0x04, 0x09] : List Byte).map tagOfByte, t.kind ≠ .mix ∧ t.station = fresh.stationNumber
      ∧ t ∉ ((fresh.ports.get 4).screenRecipe ++ (fresh.ports.get 4).holdRecipe ++ (fresh.ports.get 4).airRecipe).map (·.tag)
      ∧ (fresh.ports.get 4).source ≠ some t)
    ∧ 8 ≤ (8 : Byte).toNat := ⟨fresh_ready, by decide⟩

theorem witness_SetTalkbackStoresTogether :
    fresh.ready ∧ (4 : Byte).toNat = (4 : Fin 8).val ∧ 32769 = (0x80 : Byte).toNat * 256 + (1 : Byte).toNat
    ∧ 8193 = (0x20 : Byte).toNat * 256 + (1 : Byte).toNat
    ∧ ((1 : Byte).toNat = 1 ∧ (some (tagOfByte 0x04)) = some (tagOfByte 0x04))
    ∧ tagOfByte 0x04 ∈ fresh.minusSet 4 ∧ (tagOfByte 0x0C).kind = .mix
    ∧ ((tagOfByte 0x09).kind ≠ .mix ∧ tagOfByte 0x09 ∉ fresh.minusSet 4)
    ∧ 8 ≤ (8 : Byte).toNat ∧ 2 ≤ (2 : Byte).toNat := ⟨fresh_ready, by decide⟩

theorem witness_TalkbackSwitches :
    (withPort fresh 4 fun q => { q with state := .hold }).ready ∧ (4 : Byte).toNat = (4 : Fin 8).val
    ∧ ((withPort fresh 4 fun q => { q with state := .hold }).ports.get 4).state = .hold ∧ fresh.ready
    ∧ (fresh.ports.get 4).state = .idle ∧ 8 ≤ (8 : Byte).toNat :=
  ⟨⟨rfl, rfl⟩, by decide, by decide, fresh_ready, by decide, by decide⟩

/-- Period 30,001, stored as 30,000; on-time 30,000; amplitude 8,388,608. -/
theorem witness_PadAndCadenceAreClamped :
    fresh.ready ∧ (7 : Byte).toNat = (7 : Fin 8).val ∧ 30001 = (0x75 : Byte).toNat * 256 + (0x31 : Byte).toNat
    ∧ 30000 = (0x75 : Byte).toNat * 256 + (0x30 : Byte).toNat
    ∧ 8388608 = (0x80 : Byte).toNat * 65536 + (0 : Byte).toNat * 256 + (0 : Byte).toNat
    ∧ (4 : Byte).toNat = (4 : Fin 8).val ∧ 30000 = (if 30001 < 2 then 2 else if 30000 < 30001 then 30000 else 30001)
    ∧ 8 ≤ (8 : Byte).toNat := ⟨fresh_ready, by decide⟩

/-- A mix with sixteen PARTY terms. -/
def sixteen : State :=
  fresh.updMix 0 fun x => { x with terms := (List.finRange 16).map fun i =>
    { tag := { station := i, channel := 0 }, coefficient := 8192, status := some .waiting } }

theorem witness_SetTermEditsTheMix :
    sixteen.ready ∧ (0 : Byte).toNat = (0 : Fin 4).val ∧ 32769 = (0x80 : Byte).toNat * 256 + (1 : Byte).toNat
    ∧ (tagOfByte 0x7C).kind = .mix ∧ (tagOfByte 0x70).kind ≠ .mix
    ∧ tagOfByte 0x70 ∈ (sixteen.mixes.get 0).terms.map (·.tag)
    ∧ tagOfByte 0x71 ∉ (sixteen.mixes.get 0).terms.map (·.tag)
    ∧ ((tagOfByte 0x71).kind = .party
      ∧ 16 ≤ ((sixteen.mixes.get 0).terms.filter fun e => e.tag.kind == .party).length)
    ∧ tagOfByte 0x78 ∉ (sixteen.mixes.get 0).terms.map (·.tag) ∧ (sixteen.mixes.get 0).terms.length < 48
    ∧ (tagOfByte 0x78).kind ≠ .party ∧ 4 ≤ (4 : Byte).toNat := ⟨⟨rfl, rfl⟩, by decide⟩

theorem witness_RemovalsCloseTheGap :
    fullRecipe.ready ∧ (4 : Byte).toNat = (4 : Fin 8).val ∧ (0 : Byte).toNat = 0
    ∧ tagOfByte 0x95 ∈ ((fullRecipe.ports.get 4).screenRecipe).map (·.tag)
    ∧ tagOfByte 0x96 ∉ ((fullRecipe.ports.get 4).screenRecipe).map (·.tag) ∧ 8 ≤ (8 : Byte).toNat
    ∧ 3 ≤ (3 : Byte).toNat ∧ sixteen.ready ∧ (0 : Byte).toNat = (0 : Fin 4).val
    ∧ tagOfByte 0x70 ∈ (sixteen.mixes.get 0).terms.map (·.tag)
    ∧ tagOfByte 0x71 ∉ (sixteen.mixes.get 0).terms.map (·.tag) ∧ 4 ≤ (4 : Byte).toNat :=
  ⟨⟨rfl, rfl⟩, by decide, by decide, by decide, by decide, by decide, by decide, ⟨rfl, rfl⟩, by decide⟩

theorem witness_MixesSwitch :
    fresh.ready ∧ (3 : Byte).toNat = (3 : Fin 4).val ∧ 4 ≤ (4 : Byte).toNat := ⟨fresh_ready, by decide⟩

/-! ## Witnesses: between strobes -/

/-- A lane whose receiver follows a frame. -/
def following (l : Fin 16) : State := State.reset.updLane l fun lane => { lane with receiving := true }

set_option maxRecDepth 20000 in
/-- One frame for each class: check failures by tests 1, 2, 3 and 5, a station mismatch, a TEST kind and a good frame
are told by the tests' outcomes; here the FINAL frame on its lane, on another, cut off, and with a byte damaged. -/
theorem witness_FramesAreReceivedAndCounted :
    (State.reset.lanes.get 9).receiving = false ∧ ((following 9).lanes.get 9).receiving = true
    ∧ (following 9).inReset = false
    ∧ test1 [] = false
    ∧ (test1 finalFrame = true ∧ test2 finalFrame .cutOff = false)
    ∧ (test1 (finalFrame.take 19 ++ [0]) = true ∧ test2 (finalFrame.take 19 ++ [0]) .atLength = true
      ∧ test3 (finalFrame.take 19 ++ [0]) = false)
    ∧ (test1 finalFrame = true ∧ test2 finalFrame .atLength = true ∧ test3 finalFrame = true
      ∧ test4 8 finalFrame = false ∧ test4 9 finalFrame = true ∧ test5 finalFrame = true ∧ test6 finalFrame = true) := by
  decide

set_option maxRecDepth 20000 in
/-- Frames of kind 4 and of kind 3, laid out as the part lays out its own. -/
theorem witness_FramesAreReceivedAndCounted_kinds :
    (test1 (frameBytes 9 5 { finalContent with kind := 4 }) = true
      ∧ test2 (frameBytes 9 5 { finalContent with kind := 4 }) .atLength = true
      ∧ test3 (frameBytes 9 5 { finalContent with kind := 4 }) = true
      ∧ test4 9 (frameBytes 9 5 { finalContent with kind := 4 }) = true
      ∧ test5 (frameBytes 9 5 { finalContent with kind := 4 }) = false)
    ∧ (test1 (frameBytes 9 5 { finalContent with kind := 3 }) = true
      ∧ test2 (frameBytes 9 5 { finalContent with kind := 3 }) .atLength = true
      ∧ test3 (frameBytes 9 5 { finalContent with kind := 3 }) = true
      ∧ test4 9 (frameBytes 9 5 { finalContent with kind := 3 }) = true
      ∧ test5 (frameBytes 9 5 { finalContent with kind := 3 }) = true
      ∧ test6 (frameBytes 9 5 { finalContent with kind := 3 }) = false) := by decide

/-- Positions 0 and 15 are stored, 16 is not. -/
theorem witness_SampleFramesCaptureAndPlay :
    State.reset.inReset = false ∧ State.reset.station ≠ .untimed ∧ State.reset.position = (0 : Fin 16).val
    ∧ ({ State.reset with position := 15 } : State).position = (15 : Fin 16).val
    ∧ (inState .untimed).station = .untimed ∧ 16 ≤ ({ State.reset with position := 16 } : State).position := by decide

/-- The monitor in TIMED with strobes missing. -/
def missing (n : Nat) (st : Station) : State :=
  { inState st with monitor := { State.reset.monitor with missed := n } }

/-- The monitor in LOST. -/
def inLost (run : Nat) (st : Station) : State := { inState st with monitor := lost run }

theorem witness_StrobesAreMonitored :
    State.reset.inReset = false ∧ (missing 2 .running).monitor.condition = .timed ∧ (missing 2 .running).monitor.missed < 3
    ∧ (missing 3 .running).monitor.condition = .timed ∧ (missing 3 .running).monitor.missed = 3
    ∧ (missing 3 .running).stationName = .running
    ∧ (missing 3 (.closing .normal 4)).station = .closing .normal 4
    ∧ (missing 3 (.withdrawn (some testing))).station = .withdrawn (some testing)
    ∧ (missing 3 .conflict).station = .conflict
    ∧ (missing 3 .conflict).stationName ≠ .closing ∧ (missing 3 .conflict).stationName ≠ .withdrawn
    ∧ (inLost 3 .untimed).monitor.condition = .lost ∧ (inLost 3 .untimed).monitor.reference ≠ none
    ∧ (inLost 3 .untimed).monitor.reference = some 0 ∧ correctInterval 0 (strobe 66561).instant = false
    ∧ (inLost 3 .untimed).station = .untimed ∧ 63 * Config.ticksPerBlock ≤ 64 * ((strobe 64512).instant - 0)
    ∧ 64 * ((strobe 66560).instant - 0) ≤ 65 * Config.ticksPerBlock ∧ (inLost 2 .untimed).monitor.goodRun < 3
    ∧ (inLost 3 .untimed).monitor.goodRun = 3 ∧ (inLost 3 .conflict).station = .conflict := by decide

/-! ## Witnesses: the taken strobe -/

theorem witness_StrobesKeepTheSettings :
    (.missLimit (strobe 1) 9 : Instr) ∈ [.blockStrobe (strobe 1), .strobeRunComplete (strobe 1),
      .acquireComplete (strobe 1) 9, .missLimit (strobe 1) 9, .listenComplete (strobe 1), .echoMismatchLimit (strobe 1),
      .quietRunComplete (strobe 1) 2, .withdrawalTimerExpiry (strobe 1), .finalCountComplete (strobe 1),
      .laneTestComplete (strobe 1)]
    ∧ exec (.missLimit (strobe 1) 9) State.reset = .next (after (exec (.missLimit (strobe 1) 9) State.reset)) :=
  ⟨by decide, rfl⟩

/-- A strobe in UNTIMED that leaves the monitor LOST, one that brings the station back, and one taken in STARTING. -/
theorem witness_StrobesRaiseTheirEvents :
    (inLost 2 .untimed).inReset = false ∧ (inLost 2 .untimed).station = .untimed
    ∧ (after (exec (.blockStrobe (strobe 65536)) (inLost 2 .untimed))).monitor.condition = .lost
    ∧ (inLost 3 .untimed).monitor.condition = .lost
    ∧ (after (exec (.blockStrobe (strobe 65536)) (inLost 3 .untimed))).monitor.condition = .timed
    ∧ State.reset.inReset = false ∧ State.reset.station ≠ .untimed ∧ State.reset.MixesSound := by
  refine ⟨by decide, by decide, by decide, by decide, by decide, by decide, by decide, fun m => ?_⟩
  constructor <;> revert m <;> decide

/-- A lane in a receive state, with a final mark, and a good FINAL frame of sequence 40,012 or no frame. -/
def laneIn (receive : Receive) (mark arrives : Bool) : State :=
  let s := State.reset.updLane 9 fun l => { l with receive := receive, finalMark := mark }
  if arrives then withFrame s 9 finalFrame .good else s

/-- The FINAL frame as its receiver reads it. -/
def finalRead : Frame := readFrame finalFrame

/-- A FINAL frame of station 0, and a part that sent it and hears it on its own lane. -/
def ownFinal : List Byte := frameBytes 0 7 finalContent

/-- The part with that echo, in a station state. -/
def ownFrame (st : Station) : State := withFrame { inState st with sent := some ownFinal } 0 ownFinal .good

theorem witness_StrobesMoveTheLanes :
    State.reset.takesStrobes ∧ ((laneIn .absent false true).lanes.get 9).slips ≤ 65535
    ∧ ((9 : Fin 16) ≠ State.reset.stationNumber)
    ∧ (∀ receive, (laneIn receive false true).takesStrobes
      ∧ (laneIn receive false true).blockFrame (laneIn receive false true).verdict 9 = .valid finalRead
      ∧ ((laneIn receive false true).lanes.get 9).receive = receive)
    ∧ finalRead.sequence = 40012 ∧ finalRead.final = true
    ∧ finalRead.sequence = (40011 : Seq) + 1 ∧ finalRead.sequence ≠ (40010 : Seq) + 1
    ∧ (∀ receive mark, (laneIn receive mark false).blockFrame (laneIn receive mark false).verdict 9 = .missing
      ∧ ((laneIn receive mark false).lanes.get 9).receive = receive
      ∧ ((laneIn receive mark false).lanes.get 9).finalMark = mark)
    ∧ (ownFrame .running).takesStrobes ∧ (ownFrame .running).stationNumber = 0
    ∧ ((ownFrame .running).lanes.get 0).frame = some { bytes := ownFinal, cls := .good }
    ∧ (ownFrame .running).station = .running ∧ (ownFrame .running).sent = some ownFinal
    ∧ (ownFrame .conflict).takesStrobes
    ∧ ((ownFrame .conflict).lanes.get 0).frame = some { bytes := ownFinal, cls := .good }
    ∧ (ownFrame .conflict).station = .conflict :=
  ⟨reset_takes, by decide, by decide, fun _ => ⟨⟨rfl, (by intro h; cases h)⟩, rfl, rfl⟩, by decide, by decide, by decide, by decide,
    fun _ _ => ⟨rfl, rfl, rfl⟩, ⟨rfl, by decide⟩, rfl, rfl, rfl, rfl, ⟨rfl, by decide⟩, rfl, rfl⟩

/-- The third valid frame at acquire count 2; the eighth miss at miss count 7; and on a RUNNING station a claim held
from the lane. -/
def dropping : State :=
  { (laneIn (.lapsed 77 7) false false) with
    station := .running
    ports := upd State.reset.ports 0 fun q => { q with state := .air, holder := some (tagOfByte 0x9C) } }

theorem witness_LaneThresholdsComplete :
    (laneIn (.acquiring 40011 2) false true).takesStrobes
    ∧ (laneIn (.acquiring 40011 2) false true).blockFrame (laneIn (.acquiring 40011 2) false true).verdict 9
      = .valid finalRead
    ∧ ((laneIn (.acquiring 40011 2) false true).lanes.get 9).receive = .acquiring 40011 2
    ∧ finalRead.sequence = (40011 : Seq) + 1
    ∧ dropping.takesStrobes ∧ (dropping.lanes.get 9).receive = .lapsed 77 7
    ∧ (dropping.blockFrame dropping.verdict 9 = .missing ∧ (dropping.lanes.get 9).finalMark = false)
    ∧ dropping.active = true ∧ dropping.verdict ≠ .mismatched ∧ dropping.faults (strobe 1) 0 = false
    ∧ (dropping.ports.get 0).holder = some (tagOfByte 0x9C) ∧ (tagOfByte 0x9C).station = 9 :=
  ⟨⟨rfl, by decide⟩, rfl, rfl, by decide, ⟨rfl, by decide⟩, rfl, ⟨rfl, rfl⟩, rfl, by decide, rfl, rfl, by decide⟩

/-- A NORMAL frame that shows channels 7, 8, 11, 12 and 15, with a port state and a pending count in channel 7's
descriptor and a record for channel 15 alone, of one term and one stamp. -/
def carrying (state count : Byte) : Frame :=
  { final := false, sequence := 41, withdrawing := false
    sections := { shown := [7, 8, 11, 12, 15]
                  descriptors := [state, 3, 0x9C, count]
                  wants := []
                  records := [{ channel := 15, stamps := [40], terms := [(tagOfByte 0x32, 32768)], clip := false }]
                  samples := [] } }

theorem witness_StrobesWriteTheDirectory :
    (laneIn (.present 7) false true).takesStrobes
    ∧ (laneIn (.present 7) false true).blockFrame (laneIn (.present 7) false true).verdict 9 = .valid finalRead
    ∧ finalRead.final = true ∧ (12 : Fin 16) ∉ finalRead.sections.shown
    ∧ (laneIn (.lapsed 7 7) false false).takesStrobes
    ∧ (∀ f, (laneIn (.lapsed 7 7) false false).blockFrame (laneIn (.lapsed 7 7) false false).verdict 9 ≠ .valid f)
    ∧ ((laneIn (.lapsed 7 7) false false).lanes.get 9).receive ≠ .absent
    ∧ (carrying 1 4).final = false ∧ 7 ∈ (carrying 1 4).sections.shown ∧ 8 ∈ (carrying 1 4).sections.shown
    ∧ 15 ∈ (carrying 1 4).sections.shown ∧ 11 ∈ (carrying 1 4).sections.shown ∧ (entryOf (carrying 1 4) 7).isSome = true
    ∧ entryOf (carrying 1 5) 7 = none ∧ entryOf (carrying 0 4) 7 = none ∧ entryOf (carrying 4 4) 7 = none
    ∧ (entryOf (carrying 1 4) 15).isSome = true ∧ entryOf (carrying 1 4) 12 = none :=
  ⟨⟨rfl, by decide⟩, rfl, by decide, by decide, ⟨rfl, by decide⟩, (by intro f h; cases h), by decide, by decide⟩

theorem witness_TheListenWindowEnds :
    State.reset.inReset = false ∧ State.reset.station = .starting none false
    ∧ (inState (.starting (some 14) false)).station = .starting (some 14) false
    ∧ (inState (.starting (some 15) false)).station = .starting (some 15) false
    ∧ (inState (.starting (some 3) true)).station = .starting (some 3) true := by decide

/-- A station that sent a FINAL frame at the strobe before, with an echo count, its echo matched or missing. -/
def echoing (st : Station) (count : Nat) (matched : Bool) : State :=
  let s := { inState st with sent := some [1, 2, 3], echoMismatch := count }
  if matched then withFrame s 0 [1, 2, 3] .good else s

theorem witness_EchoMismatchesLeadToConflict :
    (∀ st count matched, (echoing st count matched).inReset = false ∧ (echoing st count matched).sent = some [1, 2, 3]
      ∧ (echoing st count matched).station = st ∧ (echoing st count matched).echoMismatch = count)
    ∧ ((echoing .running 0 true).lanes.get (echoing .running 0 true).stationNumber).frame
      = some { bytes := [1, 2, 3], cls := .good }
    ∧ ((echoing (.closing .forced 7) 1 false).lanes.get (echoing (.closing .forced 7) 1 false).stationNumber).frame
      ≠ some { bytes := [1, 2, 3], cls := .good }
    ∧ (∀ st, (inState st).inReset = false ∧ (inState st).sent = none ∧ (inState st).station = st)
    ∧ (inState .running).station ≠ .untimed ∧ (inState .conflict).station ≠ .untimed
    ∧ (inState (.withdrawn none)).station ≠ .untimed := by
  refine ⟨fun st count matched => ?_, by decide, by decide, fun _ => ⟨rfl, rfl, rfl⟩, by decide, by decide, by decide⟩
  cases matched <;> exact ⟨rfl, rfl, rfl, rfl⟩

theorem witness_ClosingsAndLaneTestsComplete :
    State.reset.inReset = false ∧ (inState (.closing .normal 7)).station = .closing .normal 7
    ∧ ((inState (.closing .normal 7)).verdict = .mismatched → (inState (.closing .normal 7)).echoMismatch < 2)
    ∧ (inState (.closing .normal 8)).station = .closing .normal 8
    ∧ (inState (.withdrawn (some testing))).station = .withdrawn (some testing)
    ∧ (1 = testing.missing
        + (if ((inState (.withdrawn (some testing))).lanes.get 0).frame = none then 1 else 0))
    ∧ testing.judged = 3 ∧ testing.sent = 4
    ∧ ({ sent := 3, judged := 2, missing := 0, differing := 0 } : LaneTest).judged < 3
    ∧ (inState (.withdrawn (some { sent := 0, judged := 0, missing := 0, differing := 0 }))).station
      = .withdrawn (some { sent := 0, judged := 0, missing := 0, differing := 0 })
    ∧ (testContent 3).samples[(15 : Fin 16).val]? = some (testBlock 3 15) := by decide

/-- A WITHDRAWING station whose port's holder asks in the frame heard, the own echo missing. -/
def heardBack (timer : Nat) : State :=
  { (withFrame (withPort (inState (.withdrawing timer)) 0 fun q => { q with state := .air, holder := some (tagOfByte 0x9C) })
      9 wantFrame .good) with sent := some [1], echoMismatch := 1 }

theorem witness_WithdrawalsWaitForHolders :
    (inState (.withdrawing 0)).inReset = false ∧ (inState (.withdrawing 0)).station = .withdrawing 0
    ∧ (inState (.withdrawing 0)).verdict ≠ .mismatched
    ∧ (∀ p, (inState (.withdrawing 0)).keptHolder (strobe 1) p = none)
    ∧ (∀ timer, (heldBack timer).inReset = false ∧ (heldBack timer).station = .withdrawing timer
      ∧ (heldBack timer).verdict ≠ .mismatched
      ∧ (heldBack timer).keptHolder (strobe 1) 0 = some (tagOfByte 0x9C))
    ∧ (heldBack 5).keptHolder ⟨1, true, false⟩ 0 = none
    ∧ (heardBack 29999).keptHolder (strobe 1) 0 = some (tagOfByte 0x9C)
    ∧ (heardBack 29999).station = .withdrawing 29999 ∧ (heardBack 29999).verdict = .mismatched
    ∧ (heardBack 29999).echoMismatch < 2 :=
  ⟨rfl, rfl, by decide, by decide, fun _ => ⟨rfl, rfl, (by intro h; cases h), rfl⟩, by decide, by decide, rfl, by decide,
    by decide⟩

/-- A port in HOLD, its quiet count one short of 600, silent, and an IDLE port beside it. -/
def quietPort : State := withPort State.reset 2 fun q => { q with state := .hold, quiet := 599 }

theorem witness_TheLevelMonitorMeasures :
    quietPort.takesStrobes ∧ quietPort.faults (strobe 1) 2 = false ∧ quietPort.stationName ≠ .withdrawing
    ∧ (quietPort.ports.get 2).state = .hold ∧ (quietPort.ports.get 2).quiet = 599
    ∧ (∀ n, ((quietPort.capture.get 2).get n).natAbs < (quietPort.ports.get 2).threshold)
    ∧ (quietPort.ports.get 3).state = .idle
    ∧ quietPort.faults ⟨1, true, false⟩ 2 = true ∧ (quietPort.ports.get 2).state ≠ .outOfService :=
  ⟨⟨rfl, by decide⟩, by decide⟩

/-- The two groups' inputs, and ports that no group fault takes out: at a strobe that leaves the station as it is and at
one that brings it to CLOSING. -/
theorem witness_GroupFaultsTakePortsOut :
    State.reset.takesStrobes
    ∧ (Machine.Group.a = .a ∧ true = (⟨1, true, false⟩ : StrobeInput).faultA ∧ false = State.reset.levelA)
    ∧ ({ State.reset with levelB := true } : State).takesStrobes
    ∧ (Machine.Group.b = .b ∧ false = (strobe 1).faultB ∧ true = ({ State.reset with levelB := true } : State).levelB)
    ∧ (Machine.Group.b = .b ∧ true = (⟨1, false, true⟩ : StrobeInput).faultB
      ∧ true = ({ State.reset with levelB := true } : State).levelB)
    ∧ 4 ∈ portsOf .b ∧ (outB.ports.get 4).state = .outOfService
    ∧ State.reset.faults ⟨1, false, true⟩ 3 = false ∧ State.reset.stationName ≠ .withdrawing ∧ State.reset.active = false
    ∧ (after (exec (.blockStrobe (strobe 1)) State.reset)).active = false
    ∧ (after (exec (.blockStrobe (strobe 1)) State.reset)).stationName ≠ .conflict
    ∧ (inState (.withdrawing 0)).takesStrobes ∧ (inState (.withdrawing 0)).faults (strobe 1) 0 = false
    ∧ (inState (.withdrawing 0)).stationName = .withdrawing
    ∧ (after (exec (.blockStrobe (strobe 1)) (inState (.withdrawing 0)))).stationName = .closing :=
  ⟨reset_takes, by decide, ⟨rfl, by decide⟩, by decide, by decide, by decide, by decide, by decide, by decide, by decide,
    by decide, by decide, ⟨rfl, by decide⟩, by decide⟩

/-- A RUNNING station with a port in AIR, and wants heard for it. -/
def wanted : State := withFrame (withPort (inState .running) 0 fun q => { q with state := .air }) 9 wantFrame .good

theorem witness_StrobesUpdateTheClaims :
    wanted.inReset = false ∧ wanted.active = true ∧ wanted.verdict ≠ .mismatched
    ∧ wanted.blockFrame wanted.verdict 9 = .valid (readFrame wantFrame)
    ∧ (tagOfByte 0x9C, wanted.portTag 0) ∈ (readFrame wantFrame).wants ∧ (∀ timer, wanted.station ≠ .withdrawing timer)
    ∧ (wanted.ports.get 0).state = .air ∧ wanted.keptHolder (strobe 1) 0 = none ∧ wanted.faults (strobe 1) 0 = false
    ∧ wanted.faults ⟨1, true, false⟩ 0 = true
    ∧ (dropping.active = true ∧ (dropping.ports.get 0).holder = some (tagOfByte 0x9C)
      ∧ goesAbsent (dropping.lanes.get 9) (dropping.blockFrame dropping.verdict 9) = true)
    ∧ (heardBack 0).active = true ∧ (heardBack 0).station = .withdrawing 0 ∧ (heardBack 0).verdict = .mismatched
    ∧ (heardBack 0).echoMismatch < 2 ∧ (inState (.starting (some 15) false)).station = .starting (some 15) false :=
  ⟨rfl, rfl, by decide, rfl, by decide, (by intro timer h; cases h), rfl, by decide⟩

theorem witness_StrobesPlayTheReturns :
    wanted.takesStrobes ∧ (after (exec (.blockStrobe (strobe 1)) wanted)).active = true
    ∧ ((after (exec (.blockStrobe (strobe 1)) wanted)).ports.get 0).served = true
    ∧ ((after (exec (.blockStrobe (strobe 1)) wanted)).ports.get 1).served = false :=
  ⟨⟨rfl, by decide⟩, by decide, by decide, by decide⟩

theorem witness_StrobesSendTheFrame :
    wanted.takesStrobes ∧ (after (exec (.blockStrobe (strobe 1)) wanted)).active = true ∧ wanted.history = []
    ∧ State.reset.takesStrobes ∧ (after (exec (.blockStrobe (strobe 1)) State.reset)).stationName = .starting :=
  ⟨⟨rfl, by decide⟩, by decide, rfl, reset_takes, by decide⟩

/-- A LIVE mix on a RUNNING station with a claim it no longer holds. -/
def losing : State :=
  { inState .running with mixes := upd State.reset.mixes 0 fun x => { x with live := true, terms :=
      [{ tag := tagOfByte 0x32, coefficient := 8192, status := some .held }] } }

theorem witness_StrobesComposeTheMixes :
    losing.takesStrobes ∧ (∃ e ∈ (losing.mixes.get 0).terms, e.status = some .held)
    ∧ (after (exec (.blockStrobe (strobe 1)) losing)).active = true
    ∧ ((after (exec (.blockStrobe (strobe 1)) losing)).mixes.get 0).live = true
    ∧ ((after (exec (.blockStrobe (strobe 1)) losing)).mixes.get 1).live = false :=
  ⟨⟨rfl, by decide⟩, by decide, by decide, by decide, by decide⟩

/-! ## Witnesses: returns, arithmetic, formats, invariants -/

/-- A record of mix 9.12 with one own term, under the stamp 41 of the own lane. -/
def ownRecord (clip : Bool) : CompRecord := CompRecord.mk 12 [(0, 41)] [(tagOfByte 0x04, 8192)] clip

/-- Port 4 in HOLD with mix 9.12 in its recipe, the mix fresh, and a history. -/
def returning (clip : Bool) (history : List HistoryRecord) : State :=
  { State.reset with
    ports := upd State.reset.ports 4 (fun q => { q with state := .hold, holdRecipe := [⟨tagOfByte 0x9C, 8192⟩] })
    history := history
    directory := upd State.reset.directory 9 (fun es => upd es 12 (fun _ =>
      some (Entry.mk 41 true 0 Block.zero (.mix (ownRecord clip))))) }

/-- The history with the own channel recorded, and without it. -/
def recordedHistory (channels : List (Fin 16 × Block)) : List HistoryRecord := [HistoryRecord.mk 41 channels]

theorem witness_ReturnsSumTheirContributions :
    (((returning false []).ports.get 4).state = .hold
      ∧ [⟨tagOfByte 0x9C, 8192⟩] = ((returning false []).ports.get 4).holdRecipe)
    ∧ State.reset.freshEntry (tagOfByte 0x9C) = none
    ∧ (∀ clip history, (returning clip history).freshEntry (tagOfByte 0x9C)
      = some (Entry.mk 41 true 0 Block.zero (.mix (ownRecord clip))))
    ∧ (tagOfByte 0x9C).kind = .mix ∧ (tagOfByte 0x39).kind ≠ .mix
    ∧ (ownRecord false).terms.filter (fun t => ((returning false []).minusSet 4).contains t.1) ≠ []
    ∧ (ownRecord false).terms.filter (fun t => ((returning false []).minusSet 5).contains t.1) = []
    ∧ (ownRecord true).clip = true ∧ stampOf (ownRecord false) State.reset.stationNumber = some 41
    ∧ (∀ r ∈ (returning false []).history, r.sequence ≠ 41)
    ∧ lookup (recordedHistory [(8, Block.zero)]) 41 (tagOfByte 0x04).channel = .incomplete
    ∧ lookup (recordedHistory [(4, Block.zero)]) 41 (tagOfByte 0x04).channel = .found Block.zero :=
  ⟨⟨rfl, rfl⟩, rfl, fun _ _ => rfl, by decide⟩

theorem witness_CancellationIsExact :
    let s := returning false (recordedHistory [(4, Block.zero)])
    (tagOfByte 0x9C).kind = .mix
    ∧ s.freshEntry (tagOfByte 0x9C) = some (Entry.mk 41 true 0 Block.zero (.mix (ownRecord false)))
    ∧ (ownRecord false).clip = false
    ∧ (∀ n, Block.zero.get n = ((ownRecord false).terms.map fun t => roundedProduct (Block.zero.get n) t.2).sum)
    ∧ stampOf (ownRecord false) s.stationNumber = some 41
    ∧ (∀ t ∈ (ownRecord false).terms, t.1 ∈ s.minusSet 4 → lookup s.history 41 t.1.channel = .found Block.zero) :=
  ⟨by decide, rfl, rfl, by decide, by decide, by decide⟩

/-- Values at the ends of the ranges, and a half that goes up. -/
theorem witness_RoundedProductIsExact :
    2 * ((3 : Int) * (4096 : Nat)) = 8192 * (2 * 2 - 1) ∧ (-8388608 : Int) ≤ -8388608 ∧ (8388607 : Int) ≤ 8388607
    ∧ (32768 : Nat) ≤ 32768 ∧ (-268435440 : Int) ≤ -268435440 ∧ (268435455 : Int) ≤ 268435455 := by decide

/-- Forty-eight terms and six entries at the bounds of their ranges, and a term of magnitude 1,073,741,824. -/
theorem witness_AccumulatorsAreExact :
    (∀ x ∈ List.replicate 48 (-33554432 : Int), -33554432 ≤ x ∧ x ≤ 33554428)
    ∧ (List.replicate 48 (-33554432 : Int)).length ≤ 48
    ∧ (∀ x ∈ List.replicate 6 (1073741820 : Int), -1073741760 ≤ x ∧ x ≤ 1073741820)
    ∧ (List.replicate 6 (1073741820 : Int)).length ≤ 6 ∧ (1073741824 : Int).natAbs ≤ 1073741824
    ∧ [(1 : Int), 2].Perm [2, 1] ∧ (2 ^ 31 - 1 < (2 ^ 31 - 1 : Int) + 1) ∧ ((-2 ^ 31 : Int) + (-1) < -2 ^ 31) := by decide

theorem witness_PadsHalveTheSum : (-2 : Int) = padded 1 (-5) := by decide

/-- A descriptor whose flags give a holder, and one whose flags give none; a sequence below the wrap. -/
theorem witness_TagsAndCountsAreCoded :
    partyBody 3 2 0x7C 4 = some (.party .air false (some (tagOfByte 0x7C)) 4)
    ∧ partyBody 1 1 0x7C 0 = some (.party .screen true none 0) ∧ (65534 : Seq) ≠ 65535 := by decide

/-- A frame with two channels, a want and a record with one stamp and one term, at the bounds of the samples. -/
def smallContent : FrameContent :=
  { kind := 1
    shown := [8, 12]
    withdrawing := true
    descriptors := [[0, 0, 0, 0], [0, 0, 0, 0]]
    wants := [(tagOfByte 0x7C, tagOfByte 0x32)]
    records := [CompRecord.mk 12 [(3, 5001)] [(tagOfByte 0x32, 65535)] true]
    samples := [Vector.replicate 16 (-2147483648), Vector.replicate 16 2147483647] }

theorem witness_FramesReadBackAsSent :
    1 ≤ smallContent.kind ∧ smallContent.kind ≤ 3
    ∧ smallContent.shown = (List.finRange 16).filter (fun c => decide (c = 8 ∨ c = 12))
    ∧ smallContent.descriptors.length = smallContent.shown.length ∧ (∀ d ∈ smallContent.descriptors, d.length = 4)
    ∧ smallContent.samples.length = smallContent.shown.length
    ∧ (∀ b ∈ smallContent.samples, ∀ n, -2147483648 ≤ b.get n ∧ b.get n ≤ 2147483647)
    ∧ smallContent.wants.length ≤ 64 ∧ smallContent.records.length ≤ 4
    ∧ (∀ r ∈ smallContent.records, r.terms.length ≤ 48 ∧ r.stamps.length ≤ 16 ∧ ∀ t ∈ r.terms, t.2 ≤ 65535)
    ∧ (8 : Fin 16) ≠ 7 ∧ smallContent.samples[1]? = some (Vector.replicate 16 2147483647) := by decide

/-- A RUNNING station with its settings, claims, mixes, history and directory in use, and a command waiting. -/
def inUse : State :=
  { sixteen with
    pending := [.setPad [4, 3]]
    station := .running
    ports := upd fullRecipe.ports 4 (fun q => { q with
      state := .air, holder := some (tagOfByte 0x9C), queue := [tagOfByte 0x7C], extras := [tagOfByte 0x09]
      source := some (tagOfByte 0x32), talkback := true, quiet := 600, armed := true, peak := 8388608 })
    lanes := upd State.reset.lanes 9 (fun l => { l with receive := .lapsed 40 7, good := 65535 })
    directory := upd State.reset.directory 9 (fun es => upd es 8 (fun _ =>
      some (Entry.mk 40 false 7 (Vector.replicate 16 (-8388608)) .feed)))
    history := [HistoryRecord.mk 65535 [(8, Block.zero), (9, Block.zero), (10, Block.zero), (11, Block.zero)],
      HistoryRecord.mk 0 [(8, Block.zero), (9, Block.zero), (10, Block.zero), (11, Block.zero)]]
    capture := Vector.replicate 12 (Vector.replicate 16 8388607) }

theorem inUse_step : step inUse = .next (after (step inUse)) := rfl

theorem witness_StepsKeepTheSettingsSound : inUse.SettingsSound ∧ step inUse = .next (after (step inUse)) := by
  refine ⟨fun p => ⟨?_, ?_⟩, inUse_step⟩
  · constructor <;> (try simp only [recipeSound]) <;> revert p <;> decide
  · constructor
    case source =>
      intro t h
      have hall : ∀ p, ∀ u ∈ (inUse.ports.get p).source, u.kind ≠ .mix ∧ u ∉ inUse.minusSet p := by decide
      exact hall p t h
    all_goals
      try simp only [recipeClean]
      revert p
      decide

theorem witness_StepsKeepTheClaimsSound : inUse.ClaimsSound ∧ step inUse = .next (after (step inUse)) := by
  refine ⟨fun p => ?_, inUse_step⟩
  constructor
  case apart =>
    intro h hh
    have hall : ∀ p, ∀ u ∈ (inUse.ports.get p).holder, u ∉ (inUse.ports.get p).queue := by decide
    exact hall p h hh
  all_goals
    revert p
    decide

theorem witness_StepsKeepTheBooksSound :
    step inUse = .next (after (step inUse)) ∧ inUse.MixesSound ∧ inUse.BooksSound := by
  refine ⟨inUse_step, fun m => ?_, ?_⟩
  · constructor <;> revert m <;> decide
  · constructor <;> (try simp only [inUse, consecutive, Lane.countsSound, stationSound]) <;> decide

theorem witness_StepsKeepTheDirectorySound :
    inUse.DirectorySound ∧ step inUse = .next (after (step inUse)) := by
  have hd : ∀ l c, ∀ e ∈ (inUse.directory.get l).get c,
      l = 9 ∧ c = 8 ∧ e = Entry.mk 40 false 7 (Vector.replicate 16 (-8388608)) .feed := by decide
  refine ⟨fun l => ⟨?_, fun c e h => ?_⟩, inUse_step⟩
  · have hr : ∀ l, (inUse.lanes.get l).receive = .absent ∨ (inUse.lanes.get l).receive = .lapsed 40 7 := by decide
    rcases hr l with h | h <;> rw [h] <;> simp [receiveSound]
  · obtain ⟨rfl, rfl, rfl⟩ := hd l c e h
    exact ⟨trivial, rfl, rfl⟩

theorem witness_StepsKeepTheSamplesInRange :
    inUse.SamplesSound ∧ step inUse = .next (after (step inUse)) := by
  have hd : ∀ l c, ∀ e ∈ (inUse.directory.get l).get c,
      l = 9 ∧ c = 8 ∧ e = Entry.mk 40 false 7 (Vector.replicate 16 (-8388608)) .feed := by decide
  refine ⟨⟨?_, ?_, ?_, fun l c e h => ?_, ?_⟩, inUse_step⟩
  case refine_4 =>
    obtain ⟨rfl, rfl, rfl⟩ := hd l c e h
    simp only [blockSound, wideSound]
    decide
  all_goals
    try simp only [blockSound]
    decide

end Sys2Proof.Tests
end

section
/-! The arithmetic of chapter 3: one rounding to nearest with halves going up (R40, R49), stated once as an
equivalence with its two bounds; the rounded product and the pad both round by it. -/

namespace Sys2Proof.Machine

/-! ## Rounding to nearest -/

/-- The rounding that R40 and R49 share: half the divisor is added before the quotient is rounded down. -/
theorem add_half_ediv_eq_iff {half : Int} (hpos : 0 < half) (x r : Int) :
    (x + half) / (2 * half) = r ↔ 2 * half * r - half ≤ x ∧ x < 2 * half * r + half := by
  rw [Int.ediv_eq_iff_of_pos (by omega), Int.mul_comm r]
  omega

/-! ## The rounded product (R40) -/

theorem roundedProduct_eq_floor (v : Int) (c : Nat) :
    roundedProduct v c = ⌊((v * c + 4096 : Int) : ℚ) / 8192⌋ :=
  (Rat.floor_intCast_div_natCast (v * c + 4096) 8192).symm

theorem roundedProduct_eq_iff (v : Int) (c : Nat) (r : Int) :
    roundedProduct v c = r ↔ 8192 * r - 4096 ≤ v * c ∧ v * c < 8192 * r + 4096 :=
  add_half_ediv_eq_iff (half := 4096) (by decide) (v * c) r

/-- A level that is a whole multiple of 8,192 multiplies exactly. -/
theorem roundedProduct_whole_level (v : Int) (m : Nat) : roundedProduct v (8192 * m) = m * v := by
  have hproduct : v * (8192 * m : Nat) = 8192 * (m * v) := by push_cast; ring
  rw [roundedProduct_eq_iff, hproduct]
  omega

theorem roundedProduct_half_goes_up {v : Int} {c : Nat} {k : Int} (hhalf : 2 * (v * c) = 8192 * (2 * k - 1)) :
    roundedProduct v c = k := by
  rw [roundedProduct_eq_iff]
  omega

theorem roundedProduct_le_of_product_le {v w : Int} {c d : Nat} (h : v * c ≤ w * d) :
    roundedProduct v c ≤ roundedProduct w d :=
  Int.ediv_le_ediv (by decide) (Int.add_le_add_right h 4096)

theorem roundedProduct_mono {v w : Int} (c : Nat) (h : v ≤ w) : roundedProduct v c ≤ roundedProduct w c :=
  roundedProduct_le_of_product_le (Int.mul_le_mul_of_nonneg_right h (Int.natCast_nonneg c))

theorem roundedProduct_le_four_mul {v bound : Int} {c : Nat} (hbound : 0 ≤ bound) (hv : v ≤ bound) (hc : c ≤ 32768) :
    roundedProduct v c ≤ 4 * bound :=
  calc roundedProduct v c ≤ roundedProduct bound c := roundedProduct_mono c hv
    _ ≤ roundedProduct bound (8192 * 4) :=
      roundedProduct_le_of_product_le (Int.mul_le_mul_of_nonneg_left (by exact_mod_cast hc) hbound)
    _ = 4 * bound := roundedProduct_whole_level bound 4

theorem four_mul_le_roundedProduct {v bound : Int} {c : Nat} (hbound : bound ≤ 0) (hv : bound ≤ v) (hc : c ≤ 32768) :
    4 * bound ≤ roundedProduct v c :=
  calc 4 * bound = roundedProduct bound (8192 * 4) := (roundedProduct_whole_level bound 4).symm
    _ ≤ roundedProduct bound c :=
      roundedProduct_le_of_product_le (Int.mul_le_mul_of_nonpos_left hbound (by exact_mod_cast hc))
    _ ≤ roundedProduct v c := roundedProduct_mono c hv

theorem roundedProduct_in_range {low high v : Int} {c : Nat} (hneg : low ≤ 0) (hpos : 0 ≤ high)
    (hlow : low ≤ v) (hhigh : v ≤ high) (hc : c ≤ 32768) :
    4 * low ≤ roundedProduct v c ∧ roundedProduct v c ≤ 4 * high :=
  ⟨four_mul_le_roundedProduct hneg hlow hc, roundedProduct_le_four_mul hpos hhigh hc⟩

@[simp] theorem cleaned_get (wide : Block) (recorded : List (Block × Nat)) (n : Fin 16) :
    (cleaned wide recorded).get n = wide.get n - (recorded.map fun r => roundedProduct (r.1.get n) r.2).sum :=
  tab_get _ n

/-- Settles O49: every property follows from the two bounds that determine the rounded product, and the ranges from
its monotonicity and its value at the level 32,768. -/
theorem roundedProductIsExact : Obligations.RoundedProductIsExact := by
  refine ⟨roundedProduct_eq_floor, fun v c => (roundedProduct_eq_iff v c _).mp rfl, fun v => ?table,
    fun _ _ c => roundedProduct_mono c, fun _ _ _ => roundedProduct_half_goes_up, rfl, rfl,
    fun _ _ => roundedProduct_in_range (low := -8388608) (high := 8388607) (by decide) (by decide),
    fun _ _ => roundedProduct_in_range (low := -268435440) (high := 268435455) (by decide) (by decide),
    cleaned_get⟩
  case table =>
    exact ⟨by simpa using roundedProduct_whole_level v 0, by simpa using roundedProduct_whole_level v 1,
      roundedProduct_whole_level v 2, roundedProduct_whole_level v 4⟩

/-! ## The pad (R49) -/

@[simp] theorem padded_zero (s : Int) : padded 0 s = s := rfl

theorem padded_succ (k : Nat) (s : Int) : padded (k + 1) s = (s + 2 ^ k) / 2 ^ (k + 1) := rfl

theorem padded_eq_floor {k : Nat} (hk : k ≠ 0) (s : Int) :
    padded k s = ⌊((s + 2 ^ (k - 1) : Int) : ℚ) / 2 ^ k⌋ := by
  have hfloor := Rat.floor_intCast_div_natCast (s + 2 ^ (k - 1)) (2 ^ k)
  rw [padded, if_neg hk]
  exact_mod_cast hfloor.symm

theorem padded_succ_eq_iff (k : Nat) (s r : Int) :
    padded (k + 1) s = r ↔ 2 * 2 ^ k * r - 2 ^ k ≤ s ∧ s < 2 * 2 ^ k * r + 2 ^ k := by
  rw [padded_succ, pow_succ', add_half_ediv_eq_iff (by positivity)]

/-- The padded value is within half a unit of the exact quotient, and a half goes up. -/
theorem padded_nearest (k : Nat) (s : Int) :
    2 ^ (k + 1) * padded k s - 2 ^ k ≤ 2 * s ∧ 2 * s < 2 ^ (k + 1) * padded k s + 2 ^ k := by
  cases k with
  | zero => rw [padded_zero]; omega
  | succ k =>
    obtain ⟨hlow, hhigh⟩ := (padded_succ_eq_iff k s _).mp rfl
    rw [pow_succ' 2 (k + 1), pow_succ' 2 k]
    constructor <;> linarith

@[simp] theorem State.paddedSum_get (s : State) (p : Fin 8) (n : Fin 16) :
    (s.paddedSum p).get n = padded (s.ports.get p).pad ((s.returnSum p).get n) :=
  tab_get _ n

theorem State.paddedSum_get_eq_floor (s : State) (p : Fin 8) (n : Fin 16) :
    (s.paddedSum p).get n =
      if (s.ports.get p).pad = 0 then (s.returnSum p).get n
      else ⌊(((s.returnSum p).get n + 2 ^ ((s.ports.get p).pad - 1) : Int) : ℚ) / 2 ^ (s.ports.get p).pad⌋ := by
  rw [State.paddedSum_get]
  split
  next hzero => rw [hzero, padded_zero]
  next hpad => exact padded_eq_floor hpad _

/-- Settles O51: each position is padded alone, the pad is the floor of R49, and its two bounds say that it rounds to
nearest; the rows of the table are evaluated. -/
theorem padsHalveTheSum : Obligations.PadsHalveTheSum := by
  refine ⟨State.paddedSum_get_eq_floor, ?nearest, padded_zero, ?table⟩
  case nearest =>
    rintro k v _ rfl
    exact padded_nearest k v
  case table => decide

end Sys2Proof.Machine
end

section
/-! The event queue between a raise and a READ EVENT (R169, R171, R172): a raise does one of two things, by whether the
queue has room; a read takes the head and clears the mark, so that it always leaves room for the event that follows. -/

namespace Sys2Proof.Machine

/-! ## An answered request -/

theorem State.answered_responds (s : State) (n : Nat) (change : State → State) (code : ResultCode) (data : List Byte) :
    (s.answered n change code data).responds code data :=
  ⟨_, Nat.le_of_lt_succ (Nat.mod_lt _ (by decide)), rfl⟩

/-! ## One event raised (R168, R169) -/

theorem State.raise_of_room (s : State) (e : Event) (hroom : s.events.length < 32) :
    s.raise e = { s with events := s.events ++ [{ event := e, sequence := s.sequence }] } :=
  if_pos hroom

theorem State.raise_of_full (s : State) (e : Event) (hfull : s.events.length = 32) :
    s.raise e = { s with overflow := true } :=
  if_neg (by omega)

theorem State.raise_ready (s : State) (e : Event) (hs : s.ready) : (s.raise e).ready := by
  obtain ⟨events, overflow, hraised⟩ := State.raiseList_shape [e] s
  rw [List.foldl_cons, List.foldl_nil] at hraised
  rw [hraised]
  exact hs

theorem State.raise_events_length_le (s : State) (e : Event) (hlen : s.events.length ≤ 32) :
    (s.raise e).events.length ≤ 32 := by
  rcases Nat.lt_or_eq_of_le hlen with hroom | hfull
  · simpa [State.raise_of_room s e hroom] using hroom
  · simp [State.raise_of_full s e hfull, hfull]

/-! ## READ EVENT (R171) -/

theorem decideReadEvent_of_empty (s : State) (hempty : s.events = []) :
    decideReadEvent [] s
      = ({ s with overflow := false }, { code := .notFound, data := [if s.overflow then 1 else 0] }) := by
  simp only [decideReadEvent, hempty, flagByte]

theorem decideReadEvent_of_cons (s : State) (oldest : EventRecord) (rest : List EventRecord)
    (hqueue : s.events = oldest :: rest) :
    decideReadEvent [] s
      = ({ s with events := rest, overflow := false },
          { code := .ok, data := eventBytes oldest ++ [if s.overflow then 1 else 0] }) := by
  simp only [decideReadEvent, hqueue, flagByte]

theorem exec_readEvent_of_empty (s : State) (hs : s.ready) (hempty : s.events = []) :
    exec (.readEvent []) s
      = .next (s.answered 2 (fun u => { u with overflow := false }) .notFound [if s.overflow then 1 else 0]) :=
  request_answered s 5 [] 2 _ _ _ hs (by decide) rfl (decideReadEvent_of_empty (s.received 2) hempty)

theorem exec_readEvent_of_cons (s : State) (hs : s.ready) (oldest : EventRecord) (rest : List EventRecord)
    (hqueue : s.events = oldest :: rest) :
    exec (.readEvent []) s
      = .next (s.answered 2 (fun u => { u with events := rest, overflow := false }) .ok
          (eventBytes oldest ++ [if s.overflow then 1 else 0])) :=
  request_answered s 5 [] 2 _ _ _ hs (by decide) rfl (decideReadEvent_of_cons (s.received 2) oldest rest hqueue)

/-- What R172 needs to know of a READ EVENT that leads from `s` to `t`. -/
structure State.readLeaves (s t : State) : Prop where
  events : t.events = s.events.tail
  overflow : t.overflow = false
  sequence : t.sequence = s.sequence
  notFound : s.events = [] → t.responds .notFound [if s.overflow then 1 else 0]
  found : ∀ oldest, s.events.head? = some oldest →
    t.responds .ok (eventBytes oldest ++ [if s.overflow then 1 else 0])

theorem exec_readEvent (s : State) (hs : s.ready) : ∃ t, exec (.readEvent []) s = .next t ∧ s.readLeaves t := by
  cases hqueue : s.events with
  | nil =>
    refine ⟨_, exec_readEvent_of_empty s hs hqueue, ?_, rfl, rfl, fun _ => State.answered_responds .., ?_⟩
    · exact hqueue.trans (by rw [hqueue, List.tail_nil])
    · simp [hqueue]
  | cons oldest rest =>
    refine ⟨_, exec_readEvent_of_cons s hs oldest rest hqueue, ?_, rfl, rfl, ?_, ?_⟩
    · rw [hqueue]; rfl
    · simp [hqueue]
    · intro oldest' hhead
      obtain rfl : oldest = oldest' := by simpa [hqueue] using hhead
      exact State.answered_responds ..

/-! ## The two orders (R172) -/

/-- A read leaves at most 31 records, so the event raised after it always joins the tail. -/
theorem State.readLeaves.raise_eq {s t : State} (hread : s.readLeaves t) (hlen : s.events.length ≤ 32) (e : Event) :
    t.raise e = { t with events := s.events.tail ++ [{ event := e, sequence := s.sequence }] } := by
  have hroom : t.events.length < 32 := by
    rw [hread.events, List.length_tail]
    omega
  rw [State.raise_of_room t e hroom, hread.events, hread.sequence]

/-- Settles O15: the read taken first always leaves room for the event; the event raised first joins the tail or, with
the queue full, sets the mark, and the read that follows it is a read of that queue. -/
theorem readAndRaiseInBothOrders : Obligations.ReadAndRaiseInBothOrders := by
  intro s e hs hlen
  obtain ⟨a, hexecA, hreadA⟩ := exec_readEvent s hs
  obtain ⟨b, hexecB, hreadB⟩ := exec_readEvent (s.raise e) (s.raise_ready e hs)
  have hraiseA := hreadA.raise_eq hlen e
  refine ⟨a, b, _, hexecA, hexecB, rfl, ?empty, ?room, ?full, ?lengthA, ?lengthB⟩
  case empty =>
    intro hempty
    rw [s.raise_of_room e (by simp [hempty])] at hreadB
    exact ⟨hreadA.notFound hempty, by simp [hraiseA, hempty], hreadB.found _ (by simp [hempty]),
      by simp [hreadB.events, hempty]⟩
  case room =>
    intro oldest rest hqueue hroom
    rw [s.raise_of_room e hroom] at hreadB
    exact ⟨hreadA.found oldest (by simp [hqueue]), by simp [hraiseA, hqueue],
      hreadB.found oldest (by simp [hqueue]), by simp [hreadB.events, hqueue]⟩
  case full =>
    intro oldest rest hqueue hfull
    have hraise := s.raise_of_full e hfull
    rw [hraise] at hreadB
    have hmarked : b.responds .ok (eventBytes oldest ++ [1]) := hreadB.found oldest (by simp [hqueue])
    exact ⟨hreadA.found oldest (by simp [hqueue]), hreadA.overflow, by simp [hraiseA, hqueue],
      by simp [hraiseA, hreadA.overflow], by rw [hraise], by rw [hraise], hmarked,
      by simp [hreadB.events, hqueue], hreadB.overflow⟩
  case lengthA =>
    simp only [hraiseA, List.length_append, List.length_tail, List.length_singleton]
    omega
  case lengthB =>
    rw [hreadB.events, List.length_tail]
    exact (Nat.sub_le _ _).trans (s.raise_events_length_le e hlen)

end Sys2Proof.Machine
end

section
/-! The coding of tags and counts (R174). A tag's byte is its station and channel as two digits to the base 16, so the
coding inverts by quotient and remainder; presence is always carried outside the byte; a count is capped, a sequence
is a 16-bit word. -/

namespace Sys2Proof.Machine

/-! ## A tag and its byte -/

@[simp] theorem tagByte_toNat (tag : Tag) : (tagByte tag).toNat = 16 * tag.station.val + tag.channel.val := by
  have hstation := tag.station.isLt
  have hchannel := tag.channel.isLt
  exact Nat.mod_eq_of_lt (by omega)

@[simp] theorem tagOfByte_station_val (b : Byte) : (tagOfByte b).station.val = b.toNat / 16 := rfl

@[simp] theorem tagOfByte_channel_val (b : Byte) : (tagOfByte b).channel.val = b.toNat % 16 := rfl

theorem Tag.eq_of_vals_eq {t u : Tag} (hstation : t.station.val = u.station.val)
    (hchannel : t.channel.val = u.channel.val) : t = u := by
  cases t
  cases u
  exact congrArg₂ Tag.mk (Fin.ext hstation) (Fin.ext hchannel)

/-- The two digits of a byte make up the byte. -/
@[simp] theorem tagByte_tagOfByte (b : Byte) : tagByte (tagOfByte b) = b := by
  apply BitVec.eq_of_toNat_eq
  rw [tagByte_toNat, tagOfByte_station_val, tagOfByte_channel_val]
  exact Nat.div_add_mod b.toNat 16

/-- The channel is below 16, so it leaves the station's digit alone. -/
@[simp] theorem tagOfByte_tagByte (tag : Tag) : tagOfByte (tagByte tag) = tag := by
  have hchannel := tag.channel.isLt
  apply Tag.eq_of_vals_eq
  · rw [tagOfByte_station_val, tagByte_toNat]; omega
  · rw [tagOfByte_channel_val, tagByte_toNat]; omega

/-! ## The kind of a tag -/

theorem kindOfChannel_eq_party_iff (channel : Fin 16) : kindOfChannel channel = .party ↔ channel.val ≤ 7 := by
  unfold kindOfChannel
  split_ifs <;> simp <;> omega

theorem kindOfChannel_eq_feed_iff (channel : Fin 16) :
    kindOfChannel channel = .feed ↔ 8 ≤ channel.val ∧ channel.val ≤ 11 := by
  unfold kindOfChannel
  split_ifs <;> simp <;> omega

theorem kindOfChannel_eq_mix_iff (channel : Fin 16) : kindOfChannel channel = .mix ↔ 12 ≤ channel.val := by
  unfold kindOfChannel
  split_ifs <;> simp <;> omega

/-! ## A tag that may be absent -/

@[simp] theorem optTag_none : optTag none = [0, 0] := rfl

@[simp] theorem optTag_some (tag : Tag) : optTag (some tag) = [1, tagByte tag] := rfl

@[simp] theorem sourceArg_zero (b : Byte) : sourceArg 0 b = some none := rfl

@[simp] theorem sourceArg_one (b : Byte) : sourceArg 1 b = some (some (tagOfByte b)) := rfl

/-- What a descriptor of a PARTY channel must hold to be well formed (R24, R26), and what it then stands for (R175). -/
theorem partyBody_eq_some {state flags holder count : Byte} {body : EntryBody}
    (hbody : partyBody state flags holder count = some body) :
    ∃ st, portStateCode st = state.toNat ∧ st ∈ [PortState.screen, .hold, .air] ∧ count.toNat ≤ 4
      ∧ (flags.getLsbD 1 = true → (tagOfByte holder).kind = .mix)
      ∧ body = .party st (flags.getLsbD 0) (if flags.getLsbD 1 then some (tagOfByte holder) else none) count.toNat := by
  simp only [partyBody] at hbody
  split at hbody
  case h_2 => cases hbody
  case h_1 st hnamed =>
    rw [Option.ite_none_right_eq_some, Bool.and_eq_true, decide_eq_true_iff] at hbody
    obtain ⟨⟨hkind, hcount⟩, hparty⟩ := hbody
    have hstate : portStateCode st = state.toNat ∧ st ∈ [PortState.screen, .hold, .air] := by
      split at hnamed <;> cases hnamed <;> simp [portStateCode, *]
    refine ⟨st, hstate.1, hstate.2, hcount, fun hflag => ?_, (Option.some.inj hparty).symm⟩
    simpa [hflag] using hkind

/-! ## Counts and sequences -/

theorem addCount_eq_ite (count more : Nat) :
    addCount count more = if count + more ≤ 65535 then count + more else 65535 :=
  (min_comm _ _).trans (min_def _ _)

theorem seq_succ_toNat {q : Seq} (hq : q ≠ 65535) : (q + 1).toNat = q.toNat + 1 := by
  have hbound := q.isLt
  have hlast : q.toNat ≠ 65535 := fun h => hq (BitVec.eq_of_toNat_eq h)
  rw [BitVec.toNat_add]
  exact Nat.mod_eq_of_lt (show q.toNat + 1 < 65536 by omega)

/-- Settles O53: the two directions of the coding, the channel's ranges, the presence carried apart in response data,
in the talkback source argument and in a descriptor, and the two ways a 16-bit value goes past its end. -/
theorem tagsAndCountsAreCoded : Obligations.TagsAndCountsAreCoded := by
  refine ⟨tagByte_tagOfByte, tagOfByte_tagByte, tagByte_toNat, rfl, ?kind, optTag_none, optTag_some,
    fun b => ⟨sourceArg_zero b, sourceArg_one b⟩, ?descriptor, addCount_eq_ite, rfl, fun _ => seq_succ_toNat⟩
  case kind =>
    exact fun tag => ⟨kindOfChannel_eq_party_iff tag.channel, kindOfChannel_eq_feed_iff tag.channel,
      kindOfChannel_eq_mix_iff tag.channel⟩
  case descriptor =>
    intro state flags holder count st activity h k hbody
    obtain ⟨_, _, _, _, _, hparty⟩ := partyBody_eq_some hbody
    cases hparty
    rfl

end Sys2Proof.Machine
end

section
/-! What a request can do, said once (R157): every decision changes nothing, or makes one of the changes of
`RequestChange`, under the conditions its rule decided. An invariant is kept by requests when these changes keep it. -/

namespace Sys2Proof.Machine

/-! ## The changes -/

/-- What an accepted request can make of port `p`: SET STATE, PORT CLEAR, SET MONITOR, SET ENTRY (a gain replaced, an
entry added), REMOVE ENTRY, SET MINUS, SET PAD, SET TALKBACK, TALKBACK ON and OFF, SET CADENCE. -/
inductive PortEdit (s : State) (p : Fin 8) : Port → Prop
  | moved (target : PortState) (hserves : (s.ports.get p).state ≠ .outOfService)
      (hnew : (s.ports.get p).state ≠ target) (htarget : target ≠ .outOfService) :
      PortEdit s p ((s.ports.get p).changeState target)
  | cleared : PortEdit s p (s.ports.get p).clear
  | monitor (choice : ThresholdChoice) (threshold : Nat) (notice : Bool)
      (hthreshold : 1 ≤ threshold ∧ threshold ≤ 8388607) :
      PortEdit s p { s.ports.get p with choice := choice, threshold := threshold, notice := notice }
  | regained (name : PortState) (tag : Tag) (gain : Nat) (hgain : gain ≤ 32768) :
      PortEdit s p ((s.ports.get p).setRecipe name (regain ((s.ports.get p).recipeNamed name) tag gain))
  | entered (name : PortState) (tag : Tag) (gain : Nat) (hgain : gain ≤ 32768)
      (hclean : tag.kind ≠ .mix → tag ∉ s.minusSet p)
      (hnew : recipeNames ((s.ports.get p).recipeNamed name) tag = false)
      (hroom : ((s.ports.get p).recipeNamed name).length < 6) :
      PortEdit s p ((s.ports.get p).setRecipe name
        ((s.ports.get p).recipeNamed name ++ [{ tag := tag, gain := gain }]))
  | removed (name : PortState) (tag : Tag) :
      PortEdit s p ((s.ports.get p).setRecipe name (((s.ports.get p).recipeNamed name).filter fun e => e.tag != tag))
  | extras (tags : List Tag) (hfew : tags.length ≤ 3)
      (hown : ∀ t ∈ tags, t.kind ≠ .mix ∧ t.station = s.stationNumber)
      (hdirect : ∀ t ∈ tags, (s.ports.get p).namesDirectly t = false)
      (hsource : ∀ t ∈ tags, (s.ports.get p).source ≠ some t) :
      PortEdit s p { s.ports.get p with extras := storedExtras (s.portTag p) tags }
  | pad (k : Nat) (hpad : k ≤ 6) : PortEdit s p { s.ports.get p with pad := k }
  | cue (source : Option Tag) (gain duck : Nat) (hsource : s.sourceConflicts p source = false)
      (hgain : gain ≤ 32768) (hduck : duck ≤ 8192) :
      PortEdit s p { s.ports.get p with source := source, talkGain := gain, duck := duck }
  | talking (on : Bool) (hserved : on = true → (s.ports.get p).served = true) :
      PortEdit s p { s.ports.get p with talkback := on }
  | cadence (period onTime amplitude : Nat) (hperiod : 2 ≤ period ∧ period ≤ 30000) (honTime : onTime < period)
      (hamplitude : amplitude ≤ 8388607) :
      PortEdit s p { s.ports.get p with period := period, onTime := onTime, amplitude := amplitude, counter := 0 }

/-- What an accepted request can make of a mix: SET TERM (a coefficient replaced, a term added), REMOVE TERM, CLEAR
MIX, MIX ON and OFF. -/
inductive MixEdit (x : Mix) : Mix → Prop
  | coefficient (tag : Tag) (c : Nat) (hc : c ≤ 32768) : MixEdit x (x.setCoefficient tag c)
  | added (tag : Tag) (c : Nat) (hc : c ≤ 32768) (hkind : tag.kind ≠ .mix) (hnew : x.names tag = false)
      (hroom : x.terms.length < 48) (hparties : tag.kind = .party → x.partyTerms < 16) :
      MixEdit x { x with terms := x.terms ++ [newTerm tag c] }
  | removed (tag : Tag) : MixEdit x { x with terms := x.terms.filter fun t => t.tag != tag }
  | emptied : MixEdit x { x with terms := [] }
  | switched (live : Bool) : MixEdit x { x with live := live }

/-- What an accepted request can make of the part. -/
inductive RequestChange (s : State) : State → Prop
  | nothing : RequestChange s s
  | armed : RequestChange s (s.updLink fun l => { l with resetArmed := true })
  | countsCleared : RequestChange s (((s.mapLanes fun _ lane => lane.clearCounts).mapPorts fun _ port =>
      port.clearCounts).updLink fun l => { l with cutCount := 0 })
  | eventRead : RequestChange s { s with events := s.events.tail, overflow := false }
  | withdrawing (hrunning : s.station = .running) : RequestChange s (s.withStation (.withdrawing 0))
  | closing (hactive : s.active = true) : RequestChange s (s.enterClosing .forced).silence
  | rejoined (hwithdrawn : s.station = .withdrawn none) :
      RequestChange s { (s.withStation (.starting none false)) with echoMismatch := 0 }
  | testing (hwithdrawn : s.station = .withdrawn none) :
      RequestChange s
        { (s.withStation (.withdrawn (some { sent := 0, judged := 0, missing := 0, differing := 0 }))) with
          lout := .driven [] }
  | restored (g : Group) : RequestChange s (s.restoreGroup g)
  | port (p : Fin 8) (f : Port → Port) (hedit : PortEdit s p (f (s.ports.get p))) : RequestChange s (s.updPort p f)
  | mix (m : Fin 4) (f : Mix → Mix) (hedit : MixEdit (s.mixes.get m) (f (s.mixes.get m))) :
      RequestChange s (s.updMix m f)

/-! ## The clamped values lie in their ranges (R38, R135) -/

theorem clampLevel_le (v : Nat) : clampLevel v ≤ 32768 := min_le_left ..
theorem clampDuck_le (v : Nat) : clampDuck v ≤ 8192 := min_le_left ..
theorem clampPad_le (v : Nat) : clampPad v ≤ 6 := min_le_left ..
theorem clampAmplitude_le (v : Nat) : clampAmplitude v ≤ 8388607 := min_le_left ..
theorem clampThreshold_mem (v : Nat) : 1 ≤ clampThreshold v ∧ clampThreshold v ≤ 8388607 := by
  unfold clampThreshold clampTop; omega
theorem clampPeriod_mem (v : Nat) : 2 ≤ clampPeriod v ∧ clampPeriod v ≤ 30000 := by
  unfold clampPeriod clampTop; omega
theorem clampOnTime_lt {period : Nat} (h : 2 ≤ period) (v : Nat) : clampOnTime period v < period := by
  unfold clampOnTime; split <;> omega
theorem chosenThreshold_mem (choice : ThresholdChoice) (host : Nat) :
    1 ≤ (chosenThreshold choice host).1 ∧ (chosenThreshold choice host).1 ≤ 8388607 := by
  cases choice
  case set => exact clampThreshold_mem host
  all_goals exact ⟨by simp [chosenThreshold], by simp [chosenThreshold]⟩

/-- The change of state that SET STATE names is never to OUT_OF_SERVICE (R54). -/
theorem targetArg_ne_outOfService {b : Byte} {target : PortState} (h : targetArg b = some target) :
    target ≠ .outOfService := by
  unfold targetArg at h
  split at h <;> cases h <;> decide

/-! ## Each decision makes one of the changes -/

theorem decideClearCounts_change (args : List Byte) (s : State) : RequestChange s (decideClearCounts args s).1 := by
  unfold decideClearCounts
  split
  · exact .countsCleared
  · exact .nothing

theorem decideStationReset_change (args : List Byte) (s : State) : RequestChange s (decideStationReset args s).1 := by
  unfold decideStationReset
  split
  · exact .armed
  · exact .nothing

theorem decideReadEvent_change (args : List Byte) (s : State) : RequestChange s (decideReadEvent args s).1 := by
  unfold decideReadEvent
  split
  · split
    next hempty => simpa [hempty] using RequestChange.eventRead (s := s)
    next oldest rest hqueue => simpa [hqueue] using RequestChange.eventRead (s := s)
  · exact .nothing

theorem decideWithdrawNormal_change (args : List Byte) (s : State) :
    RequestChange s (decideWithdrawNormal args s).1 := by
  unfold decideWithdrawNormal
  split
  · split
    · split
      next hrunning => exact .withdrawing hrunning
      · exact .nothing
    · exact .nothing
  · exact .nothing

theorem decideWithdrawForced_change (args : List Byte) (s : State) :
    RequestChange s (decideWithdrawForced args s).1 := by
  unfold decideWithdrawForced
  split
  · split
    · split
      next hactive => exact .closing hactive
      · exact .nothing
    · exact .nothing
  · exact .nothing

theorem decideRejoin_change (args : List Byte) (s : State) : RequestChange s (decideRejoin args s).1 := by
  unfold decideRejoin
  split
  · split
    next hstarts => exact .rejoined hstarts.1
    · exact .nothing
  · exact .nothing

theorem decideLaneTest_change (args : List Byte) (s : State) : RequestChange s (decideLaneTest args s).1 := by
  unfold decideLaneTest
  split
  · split
    next hstarts => exact .testing hstarts.1
    · exact .nothing
  · exact .nothing

theorem decideSetState_change (args : List Byte) (s : State) : RequestChange s (decideSetState args s).1 := by
  unfold decideSetState
  split
  · split
    next port target _ htarget =>
      split_ifs with hclosed hout hsame
      · exact .nothing
      · exact .nothing
      · exact .nothing
      · exact .port port _ (.moved target hout hsame (targetArg_ne_outOfService htarget))
    · exact .nothing
  · exact .nothing

theorem decidePortClear_change (args : List Byte) (s : State) : RequestChange s (decidePortClear args s).1 := by
  unfold decidePortClear
  split
  · split
    next port _ => exact .port port _ .cleared
    · exact .nothing
  · exact .nothing

theorem decideGroupRestore_change (args : List Byte) (s : State) : RequestChange s (decideGroupRestore args s).1 := by
  unfold decideGroupRestore
  split
  · split
    · exact .nothing
    next g _ =>
      split_ifs
      · exact .nothing
      · exact .nothing
      · exact .restored g
  · exact .nothing

theorem decideSetMonitor_change (args : List Byte) (s : State) : RequestChange s (decideSetMonitor args s).1 := by
  unfold decideSetMonitor
  split
  · split
    next port choice notice _ _ _ => exact .port port _ (.monitor choice _ notice (chosenThreshold_mem choice _))
    · exact .nothing
  · exact .nothing

theorem decideSetEntry_change (args : List Byte) (s : State) : RequestChange s (decideSetEntry args s).1 := by
  unfold decideSetEntry
  split
  · split
    next port name _ _ =>
      dsimp only
      split_ifs with hconflict hnamed hfull
      · exact .nothing
      · exact .port port _ (.regained name _ _ (clampLevel_le _))
      · exact .nothing
      · exact .port port _ (.entered name _ _ (clampLevel_le _) (fun hkind hmem => hconflict ⟨hkind, hmem⟩)
          (by simpa using hnamed) (by omega))
    · exact .nothing
  · exact .nothing

theorem decideRemoveEntry_change (args : List Byte) (s : State) : RequestChange s (decideRemoveEntry args s).1 := by
  unfold decideRemoveEntry
  split
  · split
    next port name _ _ =>
      dsimp only
      split_ifs
      · exact .port port _ (.removed name _)
      · exact .nothing
    · exact .nothing
  · exact .nothing

theorem decideSetMinus_change (args : List Byte) (s : State) : RequestChange s (decideSetMinus args s).1 := by
  unfold decideSetMinus
  split
  · split
    next port _ =>
      dsimp only
      split_ifs with hmany hforeign hdirect hsource
      · exact .nothing
      · exact .nothing
      · exact .nothing
      · exact .nothing
      · simp only [List.any_eq_true, not_exists, not_and, Bool.or_eq_true, beq_iff_eq, bne_iff_ne, not_or,
          ne_eq, not_not, Bool.not_eq_true] at hforeign hdirect hsource
        exact .port port _ (.extras _ (by omega) hforeign hdirect hsource)
    · exact .nothing
  · exact .nothing

theorem decideSetPad_change (args : List Byte) (s : State) : RequestChange s (decideSetPad args s).1 := by
  unfold decideSetPad
  split
  · split
    next port _ => exact .port port _ (.pad _ (clampPad_le _))
    · exact .nothing
  · exact .nothing

theorem decideSetTalkback_change (args : List Byte) (s : State) : RequestChange s (decideSetTalkback args s).1 := by
  unfold decideSetTalkback
  split
  · split
    next port source _ _ =>
      dsimp only
      split_ifs with hconflict
      · exact .nothing
      · exact .port port _ (.cue source _ _ (by simpa using hconflict) (clampLevel_le _) (clampDuck_le _))
    · exact .nothing
  · exact .nothing

theorem decideTalkbackOn_change (args : List Byte) (s : State) : RequestChange s (decideTalkbackOn args s).1 := by
  unfold decideTalkbackOn
  split
  · split
    · split_ifs with hserved
      · exact .port _ _ (.talking true fun _ => hserved)
      · exact .nothing
    · exact .nothing
  · exact .nothing

theorem decideTalkbackOff_change (args : List Byte) (s : State) : RequestChange s (decideTalkbackOff args s).1 := by
  unfold decideTalkbackOff
  split
  · split
    · exact .port _ _ (.talking false (by simp))
    · exact .nothing
  · exact .nothing

theorem decideSetCadence_change (args : List Byte) (s : State) : RequestChange s (decideSetCadence args s).1 := by
  unfold decideSetCadence
  split
  · split
    · exact .port _ _ (.cadence _ _ _ (clampPeriod_mem _) (clampOnTime_lt (clampPeriod_mem _).1 _)
        (clampAmplitude_le _))
    · exact .nothing
  · exact .nothing

theorem decideSetTerm_change (args : List Byte) (s : State) : RequestChange s (decideSetTerm args s).1 := by
  unfold decideSetTerm
  split
  · split
    next mix _ =>
      dsimp only
      split_ifs with hkind hnamed hfull hparties
      · exact .nothing
      · exact .mix mix _ (.coefficient _ _ (clampLevel_le _))
      · exact .nothing
      · exact .nothing
      · exact .mix mix _ (.added _ _ (clampLevel_le _) hkind (by simpa using hnamed) (by omega)
          (fun hparty => Nat.lt_of_not_le fun hmany => hparties ⟨hparty, hmany⟩))
    · exact .nothing
  · exact .nothing

theorem decideRemoveTerm_change (args : List Byte) (s : State) : RequestChange s (decideRemoveTerm args s).1 := by
  unfold decideRemoveTerm
  split
  · split
    next mix _ =>
      dsimp only
      split_ifs
      · exact .mix mix _ (.removed _)
      · exact .nothing
    · exact .nothing
  · exact .nothing

theorem decideClearMix_change (args : List Byte) (s : State) : RequestChange s (decideClearMix args s).1 := by
  unfold decideClearMix
  split
  · split
    next mix _ => exact .mix mix _ .emptied
    · exact .nothing
  · exact .nothing

theorem decideMixOn_change (args : List Byte) (s : State) : RequestChange s (decideMixOn args s).1 := by
  unfold decideMixOn
  split
  · split
    next mix _ => exact .mix mix _ (.switched true)
    · exact .nothing
  · exact .nothing

theorem decideMixOff_change (args : List Byte) (s : State) : RequestChange s (decideMixOff args s).1 := by
  unfold decideMixOff
  split
  · split
    next mix _ => exact .mix mix _ (.switched false)
    · exact .nothing
  · exact .nothing

/-! ## The six queries change nothing -/

theorem decideStatus_fst (args : List Byte) (s : State) : (decideStatus args s).1 = s := by
  unfold decideStatus; split <;> rfl
theorem decideLaneStats_fst (args : List Byte) (s : State) : (decideLaneStats args s).1 = s := by
  unfold decideLaneStats; split; split; all_goals rfl
theorem decideDirectoryList_fst (args : List Byte) (s : State) : (decideDirectoryList args s).1 = s := by
  unfold decideDirectoryList; split <;> rfl
theorem decideDirectoryQuery_fst (args : List Byte) (s : State) : (decideDirectoryQuery args s).1 = s := by
  unfold decideDirectoryQuery; split; split; all_goals rfl
theorem decidePortQuery_fst (args : List Byte) (s : State) : (decidePortQuery args s).1 = s := by
  unfold decidePortQuery; split; split; all_goals rfl
theorem decideMixQuery_fst (args : List Byte) (s : State) : (decideMixQuery args s).1 = s := by
  unfold decideMixQuery; split; split; all_goals rfl

/-- Every request makes one of the changes. -/
theorem decideRequest_change (code : Byte) (args : List Byte) (s : State) :
    RequestChange s (decideRequest code args s).1 := by
  unfold decideRequest
  cases commandOfMessage code args
  case status => exact decideStatus_fst .. ▸ .nothing
  case stationReset => exact decideStationReset_change ..
  case clearCounts => exact decideClearCounts_change ..
  case laneStats => exact decideLaneStats_fst .. ▸ .nothing
  case readEvent => exact decideReadEvent_change ..
  case withdrawNormal => exact decideWithdrawNormal_change ..
  case withdrawForced => exact decideWithdrawForced_change ..
  case rejoin => exact decideRejoin_change ..
  case laneTest => exact decideLaneTest_change ..
  case directoryList => exact decideDirectoryList_fst .. ▸ .nothing
  case directoryQuery => exact decideDirectoryQuery_fst .. ▸ .nothing
  case setState => exact decideSetState_change ..
  case portClear => exact decidePortClear_change ..
  case groupRestore => exact decideGroupRestore_change ..
  case setMonitor => exact decideSetMonitor_change ..
  case portQuery => exact decidePortQuery_fst .. ▸ .nothing
  case setEntry => exact decideSetEntry_change ..
  case removeEntry => exact decideRemoveEntry_change ..
  case setMinus => exact decideSetMinus_change ..
  case setPad => exact decideSetPad_change ..
  case setTalkback => exact decideSetTalkback_change ..
  case talkbackOn => exact decideTalkbackOn_change ..
  case talkbackOff => exact decideTalkbackOff_change ..
  case setCadence => exact decideSetCadence_change ..
  case setTerm => exact decideSetTerm_change ..
  case removeTerm => exact decideRemoveTerm_change ..
  case clearMix => exact decideClearMix_change ..
  case mixOn => exact decideMixOn_change ..
  case mixOff => exact decideMixOff_change ..
  case mixQuery => exact decideMixQuery_fst .. ▸ .nothing
  all_goals exact .nothing

end Sys2Proof.Machine
end

section
/-! The passes of a taken strobe by cases: what each makes of the station state, of LOUT and of a port, and what a
strobe does that is not taken or that brings an UNTIMED station back (R1, R22). -/

namespace Sys2Proof.Machine

/-! ## A step, a strobe, and the invariants -/

/-- An invariant that every move keeps, and that does not look at the queue of commands, is kept by every step. -/
theorem step_keeps (inv : State → Prop) (hqueue : ∀ (s : State) (rest : List Instr),
      inv s → inv { s with pending := rest })
    (hmove : ∀ a b, Move a b → inv a → inv b) (s t : State) (hs : inv s) (hstep : step s = .next t) : inv t := by
  unfold step at hstep
  split at hstep
  · cases hstep
    exact hs
  next c rest _ => exact (exec_moves c _ t hstep).keeps inv hmove (hqueue s rest hs)

/-- An UNTIMED station as the strobe that ends the loss finds it: in STARTING, the echo mismatches forgotten (R22). -/
def State.back (s : State) : State := { (s.withStation (.starting none false)) with echoMismatch := 0 }

theorem State.raiseAll_nil (s : State) : s.raiseAll [] = { s with freeCount := s.freeCount + 1 } := rfl

theorem State.afterStrobe_of_inReset (s : State) (inp : StrobeInput) (hreset : s.inReset = true) :
    s.afterStrobe inp = s := if_pos hreset

/-- A strobe in UNTIMED that does not complete the monitor's run is noted and not taken (R1). -/
theorem State.afterStrobe_of_untimed (s : State) (inp : StrobeInput) (hreset : s.inReset = false)
    (huntimed : s.station = .untimed) (hreturns : s.monitor.returns inp.instant = false) :
    s.afterStrobe inp = { s with monitor := s.monitor.strobe inp.instant, freeCount := s.freeCount + 1 } := by
  have hnoted : strobeArrives inp s = Work.silent { s with monitor := s.monitor.strobe inp.instant } := by
    simp [strobeArrives, monitorPass, hreturns, huntimed]
  simp only [State.afterStrobe, hreset, hnoted, Work.silent_st, Work.silent_chains, Bool.false_eq_true, if_false,
    State.raiseAll_nil]

theorem State.back_takesStrobes (s : State) (hreset : s.inReset = false) : s.back.takesStrobes :=
  ⟨hreset, by simp [State.back, State.withStation]⟩

/-- The strobe that completes the monitor's run in UNTIMED acts as one taken in STARTING (R22). -/
theorem State.afterStrobe_of_returns (s : State) (inp : StrobeInput) (hreset : s.inReset = false)
    (huntimed : s.station = .untimed) (hreturns : s.monitor.returns inp.instant = true) :
    s.afterStrobe inp = s.back.afterStrobe inp := by
  have hpass : monitorPass inp.instant s = monitorPass inp.instant s.back := by
    have hback : s.back.monitor = s.monitor := rfl
    have hstation : s.back.station = .starting none false := rfl
    have hname : s.back.stationName = .starting := rfl
    simp only [monitorPass, hback, hreturns, hstation, hname, huntimed, if_true, reduceCtorEq, if_false]
    rfl
  have hback : s.back.inReset = false := hreset
  have hstation : (monitorPass inp.instant s.back).st.station ≠ .untimed := by
    rw [monitorPass_st s.back inp.instant (by simp [State.back, State.withStation])]
    simp [State.back, State.withStation]
  have harrives : strobeArrives inp s = strobeArrives inp s.back := by
    simp only [strobeArrives, hpass, if_neg hstation]
  simp only [State.afterStrobe, hreset, hback, harrives, Bool.false_eq_true, if_false]

/-- An invariant is kept by every strobe that arrives when it is kept by the taken ones, by a noted one and by the
return from UNTIMED. -/
theorem State.afterStrobe_keeps {inv : State → Prop} {s : State} (inp : StrobeInput)
    (hnoted : s.station = .untimed → inv s →
      inv { s with monitor := s.monitor.strobe inp.instant, freeCount := s.freeCount + 1 })
    (hback : s.station = .untimed → inv s → inv s.back)
    (htaken : ∀ u : State, u.takesStrobes → inv u → inv (u.afterStrobe inp)) (hs : inv s) :
    inv (s.afterStrobe inp) := by
  rcases Bool.eq_false_or_eq_true s.inReset with hreset | hreset
  · rwa [s.afterStrobe_of_inReset inp hreset]
  by_cases huntimed : s.station = .untimed
  · rcases Bool.eq_false_or_eq_true (s.monitor.returns inp.instant) with hreturns | hreturns
    · rw [s.afterStrobe_of_returns inp hreset huntimed hreturns]
      exact htaken s.back (s.back_takesStrobes hreset) (hback huntimed hs)
    · rw [s.afterStrobe_of_untimed inp hreset huntimed hreturns]
      exact hnoted huntimed hs
  · exact htaken s ⟨hreset, huntimed⟩ hs

/-! ## The fault inputs (R59 to R61) -/

theorem faultPass_of_same {g : Group} {sample : Bool} {s : State} (h : sample = s.level g) :
    faultPass g sample s = Work.silent s := if_pos h

theorem faultPass_of_asserted {g : Group} {s : State} (h : s.level g = false) :
    faultPass g true s =
      { st := (s.setLevel g true).mapPorts fun p port =>
          if groupOfPort p = g ∧ port.state ≠ .outOfService then port.changeState .outOfService else port
        chains := [[.groupFault g (4 - s.outOfService (portsOf g))]] } := by
  simp [faultPass, h]

theorem faultPass_of_negated {g : Group} {s : State} (h : s.level g = true) :
    faultPass g false s =
      { st := s.setLevel g false, chains := [[.groupClear g (s.outOfService (portsOf g))]] } := by
  simp [faultPass, h]

@[simp] theorem State.setLevel_level (s : State) (g h : Group) (level : Bool) :
    (s.setLevel g level).level h = if h = g then level else s.level h := by
  cases g <;> cases h <;> rfl

@[simp] theorem State.mapPorts_level (s : State) (f : Fin 8 → Port → Port) (g : Group) :
    (s.mapPorts f).level g = s.level g := by
  cases g <;> rfl

theorem faultPass_level (g h : Group) (sample : Bool) (s : State) :
    (faultPass g sample s).st.level h = if h = g then sample else s.level h := by
  unfold faultPass
  split_ifs <;> simp_all

theorem faultPass_port (g : Group) (sample : Bool) (s : State) (p : Fin 8) :
    (faultPass g sample s).st.ports.get p =
      if (groupOfPort p = g ∧ sample = true ∧ s.level g = false) ∧ (s.ports.get p).state ≠ .outOfService then
        (s.ports.get p).changeState .outOfService
      else s.ports.get p := by
  unfold faultPass
  split_ifs <;> simp_all

/-- A port's group fault input changes to asserted exactly when its group's does (R60). -/
theorem State.faults_eq_true_iff (s : State) (inp : StrobeInput) (p : Fin 8) :
    s.faults inp p = true ↔ groupOfPort p = .a ∧ inp.faultA = true ∧ s.level .a = false
      ∨ groupOfPort p = .b ∧ inp.faultB = true ∧ s.level .b = false := by
  unfold State.faults groupOfPort
  split <;> simp [State.level, and_comm]

theorem State.faulted_port (s : State) (inp : StrobeInput) (p : Fin 8) :
    (s.faulted inp).ports.get p =
      if s.faults inp p = true ∧ (s.ports.get p).state ≠ .outOfService then
        (s.ports.get p).changeState .outOfService
      else s.ports.get p := by
  have hlevel : ∀ g, (s.noted inp).level g = s.level g := fun g => by cases g <;> rfl
  simp only [State.faulted, faultPass_port, faultPass_level, hlevel, State.noted_ports, s.faults_eq_true_iff]
  cases groupOfPort p <;> simp

/-! ## The echo check (R16, R20) -/

/-- The third mismatch: the strobe at which the echo check moves the station to CONFLICT (R16). -/
def State.conflicts (s : State) : Bool := s.verdict == .mismatched && decide (2 ≤ s.echoMismatch)

theorem State.conflicts_eq_true_iff (s : State) :
    s.conflicts = true ↔ s.verdict = .mismatched ∧ 2 ≤ s.echoMismatch := by
  simp [State.conflicts]

theorem State.conflicts_eq_false {s : State} (h : s.verdict = .mismatched → s.echoMismatch < 2) :
    s.conflicts = false := by
  simp only [State.conflicts, Bool.and_eq_false_imp, beq_iff_eq, decide_eq_false_iff_not]
  intro hv
  have := h hv
  omega

/-- The echo check judges in RUNNING, WITHDRAWING and CLOSING alone (R16). -/
theorem State.verdict_judges {s : State} (h : s.verdict ≠ .notJudged) :
    s.active = true ∨ ∃ cause finals, s.station = .closing cause finals ∧ finals < 8 := by
  unfold State.verdict at h
  unfold State.active
  cases hst : s.station <;> simp_all

theorem echoPass_of_limit {s : State} (h : 2 ≤ s.echoMismatch) :
    echoPass .mismatched s =
      { st := ({ s with echoMismatch := s.echoMismatch + 1 } : State).enterConflict
        chains := [[.laneConflict s.stationNumber .echo]] } :=
  if_pos (by simpa using h)

theorem echoPass_of_few {s : State} (h : s.echoMismatch < 2) :
    echoPass .mismatched s = Work.silent { s with echoMismatch := s.echoMismatch + 1 } :=
  if_neg (by simpa using h)

/-- The echo check by its three outcomes: no move to CONFLICT, and the count alone is written; or that move. -/
theorem State.echoed_cases (s : State) (inp : StrobeInput) :
    (s.conflicts = false ∧ ∃ count, s.echoed inp = { s.faulted inp with echoMismatch := count })
      ∨ (s.conflicts = true
        ∧ s.echoed inp = ({ s.faulted inp with echoMismatch := s.echoMismatch + 1 } : State).enterConflict) := by
  unfold State.echoed
  cases hv : s.verdict with
  | notJudged =>
    have hsame : ({ s.faulted inp with echoMismatch := (s.faulted inp).echoMismatch } : State) = s.faulted inp := rfl
    exact .inl ⟨State.conflicts_eq_false (by simp [hv]), _, hsame.symm⟩
  | matched => exact .inl ⟨State.conflicts_eq_false (by simp [hv]), 0, rfl⟩
  | mismatched =>
    rcases Nat.lt_or_ge s.echoMismatch 2 with hfew | hlimit
    · refine .inl ⟨State.conflicts_eq_false fun _ => hfew, s.echoMismatch + 1, ?_⟩
      rw [echoPass_of_few (by simpa using hfew), State.faulted_echoMismatch, Work.silent_st]
    · refine .inr ⟨s.conflicts_eq_true_iff.mpr ⟨hv, hlimit⟩, ?_⟩
      rw [echoPass_of_limit (by simpa using hlimit), State.faulted_echoMismatch]

theorem State.echoed_station (s : State) (inp : StrobeInput) :
    (s.echoed inp).station = if s.conflicts then .conflict else s.station := by
  rcases s.echoed_cases inp with ⟨hc, count, h⟩ | ⟨hc, h⟩
  · simp [h, hc]
  · rw [h, hc]; rfl

theorem State.echoed_lout (s : State) (inp : StrobeInput) :
    (s.echoed inp).lout = if s.conflicts then .released else s.lout := by
  rcases s.echoed_cases inp with ⟨hc, count, h⟩ | ⟨hc, h⟩
  · simp [h, hc]
  · rw [h, hc]; rfl

theorem State.echoed_port (s : State) (inp : StrobeInput) (p : Fin 8) :
    (s.echoed inp).ports.get p =
      if s.conflicts then ((s.faulted inp).ports.get p).emptyClaims else (s.faulted inp).ports.get p := by
  rcases s.echoed_cases inp with ⟨hc, count, h⟩ | ⟨hc, h⟩
  · simp [h, hc]
  · rw [h, hc]; simp [State.enterConflict, State.emptyAllClaims]

theorem State.echoed_echoMismatch (s : State) (inp : StrobeInput) :
    (s.echoed inp).echoMismatch =
      match s.verdict with
      | .notJudged => s.echoMismatch
      | .matched => 0
      | .mismatched => s.echoMismatch + 1 := by
  unfold State.echoed
  cases hv : s.verdict with
  | notJudged => simp [echoPass]
  | matched => rfl
  | mismatched =>
    rcases Nat.lt_or_ge s.echoMismatch 2 with hfew | hlimit
    · rw [echoPass_of_few (by simpa using hfew)]; simp
    · rw [echoPass_of_limit (by simpa using hlimit)]; simp

/-! ## The listen window (R19) -/

/-- The station state after the listen window's work. -/
def Station.listened (st : Station) : Station :=
  match st with
  | .starting none heard => .starting (some 0) heard
  | .starting (some _) true => .conflict
  | .starting (some quiet) false => if 16 ≤ quiet + 1 then .running else .starting (some (quiet + 1)) false
  | other => other

/-- A frame start was noted in the listen window: the strobe leads to CONFLICT with cause LISTEN (R19). -/
def Station.clashes (st : Station) : Bool :=
  match st with
  | .starting (some _) true => true
  | _ => false

/-- The listen window by its outcomes: CONFLICT, or the station state alone is written. -/
theorem listenPass_cases (s : State) :
    (s.station.clashes = false ∧ (listenPass s).st = s.withStation s.station.listened)
      ∨ (s.station.clashes = true ∧ s.station.listened = .conflict
        ∧ listenPass s = { st := s.enterConflict, chains := [[.laneConflict s.stationNumber .listen]] }) := by
  have hother : (∀ quiet heard, s.station ≠ .starting quiet heard) → (listenPass s).st = s.withStation s.station := by
    intro h
    unfold listenPass
    split
    next hst => exact absurd hst (h _ _)
    next hst => exact absurd hst (h _ _)
    next hst => exact absurd hst (h _ _)
    · rfl
  cases hst : s.station with
  | starting quiet heard =>
    cases quiet with
    | none => exact .inl ⟨rfl, by simp only [listenPass, hst]; rfl⟩
    | some quiet =>
      cases heard with
      | true => exact .inr ⟨rfl, rfl, by simp only [listenPass, hst]⟩
      | false =>
        refine .inl ⟨rfl, ?_⟩
        simp only [listenPass, hst, Station.listened]
        split <;> rfl
  | _ => exact .inl ⟨rfl, by rw [hother (by simp [hst]), hst]; rfl⟩

theorem State.listened_station (s : State) (inp : StrobeInput) :
    (s.listened inp).station = (s.echoed inp).station.listened := by
  unfold State.listened
  rcases listenPass_cases (s.echoed inp) with ⟨_, h⟩ | ⟨_, hl, h⟩
  · rw [h]; rfl
  · rw [h, hl]; rfl

theorem State.listened_lout (s : State) (inp : StrobeInput) :
    (s.listened inp).lout = if (s.echoed inp).station.clashes then .released else (s.echoed inp).lout := by
  unfold State.listened
  rcases listenPass_cases (s.echoed inp) with ⟨hc, h⟩ | ⟨hc, _, h⟩
  · rw [h, hc]; rfl
  · rw [h, hc]; rfl

theorem State.listened_port (s : State) (inp : StrobeInput) (p : Fin 8) :
    (s.listened inp).ports.get p =
      if (s.echoed inp).station.clashes then ((s.echoed inp).ports.get p).emptyClaims
      else (s.echoed inp).ports.get p := by
  unfold State.listened
  rcases listenPass_cases (s.echoed inp) with ⟨hc, h⟩ | ⟨hc, _, h⟩
  · rw [h, hc]; rfl
  · rw [h, hc]; simp [State.enterConflict, State.emptyAllClaims]

/-! ## The end of CLOSING (R147) -/

/-- The station state after the end of CLOSING is looked at. -/
def Station.closedOut (st : Station) : Station :=
  match st with
  | .closing cause finals => if finals < 8 then .closing cause finals else .withdrawn none
  | other => other

/-- CLOSING is over at this strobe (R147). -/
def Station.isOver (st : Station) : Bool :=
  match st with
  | .closing _ finals => decide (8 ≤ finals)
  | _ => false

theorem closedPass_cases (s : State) :
    (s.station.isOver = false ∧ s.station.closedOut = s.station ∧ closedPass s = Work.silent s)
      ∨ ∃ cause finals, s.station = .closing cause finals ∧ 8 ≤ finals ∧ s.station.isOver = true
        ∧ s.station.closedOut = .withdrawn none
        ∧ closedPass s = { st := { (s.withStation (.withdrawn none)) with lout := .released }
                           chains := [[.withdrawDone cause finals]] } := by
  unfold closedPass Station.isOver Station.closedOut
  cases hst : s.station with
  | closing cause finals =>
    rcases Nat.lt_or_ge finals 8 with h | h
    · exact .inl ⟨by simpa using h, if_pos h, if_pos h⟩
    · exact .inr ⟨cause, finals, rfl, h, by simpa using h, if_neg (by omega), if_neg (by omega)⟩
  | _ => exact .inl ⟨rfl, rfl, rfl⟩

theorem State.closed_station (s : State) (inp : StrobeInput) :
    (s.closed inp).station = (s.listened inp).station.closedOut := by
  unfold State.closed
  rcases closedPass_cases (s.listened inp) with ⟨_, h, hp⟩ | ⟨_, _, _, _, _, h, hp⟩
  · rw [hp, h]; rfl
  · rw [hp, h]; rfl

theorem State.closed_lout (s : State) (inp : StrobeInput) :
    (s.closed inp).lout = if (s.listened inp).station.isOver then .released else (s.listened inp).lout := by
  unfold State.closed
  rcases closedPass_cases (s.listened inp) with ⟨h, _, hp⟩ | ⟨_, _, _, _, h, _, hp⟩
  · rw [hp, h]; rfl
  · rw [hp, h]; rfl

/-- The station state when the lanes, the directory and the claims do their work. -/
theorem State.closed_station_eq (s : State) (inp : StrobeInput) :
    (s.closed inp).station = (if s.conflicts then .conflict else s.station).listened.closedOut := by
  rw [State.closed_station, State.listened_station, State.echoed_station]

/-! ## The claim update and the withdrawal check (R90, R144) -/

theorem State.claimed_port (s : State) (inp : StrobeInput) (p : Fin 8) :
    (s.claimed inp).ports.get p =
      if (s.closed inp).active then
        claimUpdate (heardWants (s.blockFrames s.verdict) (s.portTag p)) (s.absentLanes (s.blockFrames s.verdict))
          ((s.closed inp).station == .running) ((s.listened inp).ports.get p)
      else (s.listened inp).ports.get p := by
  have hactive : (s.filed inp).active = (s.closed inp).active := by
    simp only [State.active, State.filed_station]
  have htag : (s.filed inp).portTag p = s.portTag p := by
    simp only [State.portTag, State.own, State.filed_stationNumber]
  unfold State.claimed claimPass
  rw [hactive]
  split <;> simp [htag]

/-- What the entry to CLOSING makes of a port (R58, R99, R131). -/
def Port.close (port : Port) : Port :=
  { (if port.state = .outOfService ∨ port.state = .idle then port else port.changeState .idle).emptyClaims with
    talkback := false }

@[simp] theorem State.enterClosing_port (s : State) (cause : ClosingCause) (p : Fin 8) :
    (s.enterClosing cause).ports.get p = (s.ports.get p).close := by
  simp [State.enterClosing, Port.close]

@[simp] theorem State.enterClosing_station (s : State) (cause : ClosingCause) :
    (s.enterClosing cause).station = .closing cause 0 := rfl

@[simp] theorem State.enterClosing_mix (s : State) (cause : ClosingCause) (m : Fin 4) :
    (s.enterClosing cause).mixes.get m = { s.mixes.get m with live := false } := by
  simp [State.enterClosing]

theorem withdrawalPass_of_other {s : State} (h : ∀ timer, s.station ≠ .withdrawing timer) :
    withdrawalPass s = Work.silent s := by
  unfold withdrawalPass
  split
  next timer hst => exact absurd hst (h timer)
  · rfl

theorem withdrawalPass_of_free {s : State} {timer : Nat} (hst : s.station = .withdrawing timer)
    (hfree : s.heldPorts = 0) :
    withdrawalPass s = Work.silent (s.enterClosing .normal) := by
  simp only [withdrawalPass, hst, hfree, if_true]

theorem withdrawalPass_of_held {s : State} {timer : Nat} (hst : s.station = .withdrawing timer)
    (hheld : s.heldPorts ≠ 0)
    (htimer : timer + 1 < 30000) : withdrawalPass s = Work.silent (s.withStation (.withdrawing (timer + 1))) := by
  simp only [withdrawalPass, hst, hheld, htimer, if_true, if_false]

theorem withdrawalPass_of_denied {s : State} {timer : Nat} (hst : s.station = .withdrawing timer)
    (hheld : s.heldPorts ≠ 0) (htimer : 30000 ≤ timer + 1) :
    withdrawalPass s = { st := s.withStation .running, chains := [[.withdrawDenied s.heldPorts]] } := by
  simp only [withdrawalPass, hst, hheld, Nat.not_lt.mpr htimer, if_false]

/-- The withdrawal check finds no holder: the station enters CLOSING at this strobe (R144). -/
def State.closesNow (s : State) : Bool := s.withdrawingFlag && decide (s.heldPorts = 0)

/-- The withdrawal check by its outcomes: the entry to CLOSING, or the station state alone is written, an active one
staying active. -/
theorem withdrawalPass_cases (s : State) :
    (s.closesNow = false ∧ ∃ st, (withdrawalPass s).st = s.withStation st
        ∧ ((s.withStation st).active = s.active)
        ∧ ((∀ timer, s.station ≠ .withdrawing timer) → st = s.station))
      ∨ (s.closesNow = true ∧ (withdrawalPass s).st = s.enterClosing .normal) := by
  cases hst : s.station with
  | withdrawing timer =>
    have hflag : s.withdrawingFlag = true := by simp [State.withdrawingFlag, hst]
    by_cases hfree : s.heldPorts = 0
    · exact .inr ⟨by simp [State.closesNow, hflag, hfree], by rw [withdrawalPass_of_free hst hfree]; rfl⟩
    · refine .inl ⟨by simp [State.closesNow, hfree], ?_⟩
      rcases Nat.lt_or_ge (timer + 1) 30000 with ht | ht
      · exact ⟨_, by rw [withdrawalPass_of_held hst hfree ht]; rfl, by simp [State.active, hst], by simp⟩
      · exact ⟨_, by rw [withdrawalPass_of_denied hst hfree ht], by simp [State.active, hst], by simp⟩
  | _ =>
    exact .inl ⟨by simp [State.closesNow, State.withdrawingFlag, hst], s.station,
      by rw [withdrawalPass_of_other (by simp [hst])]; rfl, rfl, fun _ => hst⟩

theorem State.checked_port (s : State) (inp : StrobeInput) (p : Fin 8) :
    (s.checked inp).ports.get p =
      if (s.claimed inp).closesNow then ((s.claimed inp).ports.get p).close else (s.claimed inp).ports.get p := by
  unfold State.checked
  rcases withdrawalPass_cases (s.claimed inp) with ⟨hc, st, h, _⟩ | ⟨hc, h⟩
  · rw [h, hc]; rfl
  · rw [h, hc]; simp

theorem State.checked_mix (s : State) (inp : StrobeInput) (m : Fin 4) :
    (s.checked inp).mixes.get m =
      if (s.claimed inp).closesNow then { s.mixes.get m with live := false } else s.mixes.get m := by
  unfold State.checked
  rcases withdrawalPass_cases (s.claimed inp) with ⟨hc, st, h, _⟩ | ⟨hc, h⟩
  · rw [h, hc]; simp
  · rw [h, hc]; simp

/-! ## The level monitor, the returns and the cadence (R65, R117, R136) -/

theorem State.measured_port (s : State) (inp : StrobeInput) (p : Fin 8) :
    (s.measured inp).ports.get p =
      if ((s.checked inp).ports.get p).served then Machine.measured (s.captured p) ((s.checked inp).ports.get p)
      else (s.checked inp).ports.get p := by
  have hcaptured : (s.checked inp).captured p = s.captured p := by
    simp only [State.captured, State.checked_capture]
  simp only [State.measured, measurePass, State.mapPorts_ports, tab_get, hcaptured]

theorem State.returned_port (s : State) (inp : StrobeInput) (p : Fin 8) :
    (s.returned inp).ports.get p =
      if (s.statused inp).builds p then (s.statused inp).countReturn p ((s.measured inp).ports.get p)
      else (s.measured inp).ports.get p := by
  simp only [State.returned, returnPass, State.mapPorts_ports, tab_get, State.statused_ports]

theorem State.returned_output (s : State) (inp : StrobeInput) (p : Fin 8) :
    (s.returned inp).output.get p =
      if (s.statused inp).builds p then (s.statused inp).builtReturn p else Block.zero := by
  simp only [State.returned, returnPass, tab_get]

theorem State.cadenced_port (s : State) (inp : StrobeInput) (p : Fin 8) :
    (s.cadenced inp).ports.get p =
      if ((s.returned inp).ports.get p).state = .hold then
        { (s.returned inp).ports.get p with counter := counterAfter ((s.returned inp).ports.get p) }
      else (s.returned inp).ports.get p := by
  simp only [State.cadenced, cadencePass, Work.silent_st, State.mapPorts_ports, tab_get]

/-! ## The lane test and the frame (R153, R6) -/

/-- The lane test by its outcomes: over, or the station state alone is written. -/
theorem testPass_cases (s : State) :
    (∃ test, s.station = .withdrawn (some test) ∧ test.judged < test.sent
        ∧ 4 ≤ (test.judge (testVerdict s.sent (s.lanes.get s.stationNumber).frame)).judged
        ∧ testPass s =
          { st := { (s.withStation (.withdrawn none)) with lout := .released }
            chains := [[.testDone s.stationNumber
              (test.judge (testVerdict s.sent (s.lanes.get s.stationNumber).frame)).result
              (test.judge (testVerdict s.sent (s.lanes.get s.stationNumber).frame)).matched]] })
      ∨ (∃ test, s.station = .withdrawn (some test) ∧ test.judged < test.sent
        ∧ (test.judge (testVerdict s.sent (s.lanes.get s.stationNumber).frame)).judged < 4
        ∧ testPass s = Work.silent (s.withStation (.withdrawn (some
            (test.judge (testVerdict s.sent (s.lanes.get s.stationNumber).frame))))))
      ∨ ((∀ test, s.station = .withdrawn (some test) → test.sent ≤ test.judged) ∧ testPass s = Work.silent s) := by
  unfold testPass
  split
  next test hst =>
    by_cases hjudged : test.judged < test.sent
    · rcases Nat.lt_or_ge (test.judge (testVerdict s.sent (s.lanes.get s.stationNumber).frame)).judged 4 with h | h
      · exact .inr (.inl ⟨test, hst, hjudged, h, by simp only [if_pos hjudged, if_neg (Nat.not_le.mpr h)]⟩)
      · exact .inl ⟨test, hst, hjudged, h, by simp only [if_pos hjudged, if_pos h]⟩
    · refine .inr (.inr ⟨fun test' h => ?_, if_neg hjudged⟩)
      rw [hst] at h
      cases h
      omega
  next h => exact .inr (.inr ⟨fun test hst => absurd hst (h test), rfl⟩)

theorem transmitPass_of_frame {s : State} {content : FrameContent} (h : s.frameContent = some content) :
    transmitPass s = Work.silent
      { s with
        sent := some (frameBytes s.stationNumber s.sequence content)
        lout := .driven (frameBytes s.stationNumber s.sequence content)
        sequence := s.sequence + 1
        station := s.station.afterSending
        history := s.historyAfter } := by
  unfold transmitPass
  rw [h]

theorem transmitPass_of_none {s : State} (h : s.frameContent = none) :
    transmitPass s = Work.silent { s with sent := none } := by
  unfold transmitPass
  rw [h]

/-- A frame is sent in every station state but those that send nothing (R6). -/
theorem State.frameContent_eq_none_iff (s : State) : s.frameContent = none ↔ sendsNothing s.station = true := by
  unfold State.frameContent sendsNothing
  cases hst : s.station with
  | withdrawn test => cases test <;> simp
  | _ => simp

theorem Station.afterSending_of_nothing {st : Station} (h : sendsNothing st = true) : st.afterSending = st := by
  unfold sendsNothing at h
  unfold Station.afterSending
  cases st with
  | withdrawn test => cases test <;> simp_all
  | _ => simp_all

theorem State.transmitted_station (s : State) (inp : StrobeInput) :
    (s.transmitted inp).station = (s.judged inp).station.afterSending := by
  unfold State.transmitted
  cases h : (s.judged inp).frameContent with
  | some content => rw [transmitPass_of_frame h]; rfl
  | none =>
    rw [transmitPass_of_none h, Station.afterSending_of_nothing ((State.frameContent_eq_none_iff _).mp h)]
    rfl

end Sys2Proof.Machine
end

section
/-! The settings of the ports (R37, R51, R105 to R107, R128, R135). What no request edits moves a port only in the
fields that a strobe writes: its settings stand, and its counts stay in their ranges. The edits of the requests keep
the ranges and the guard of the minus set one by one. -/

namespace Sys2Proof.Machine

/-! ## A port's settings, and what leaves them alone (R39) -/

/-- A port with every field that is no setting at its reset value. -/
def Port.settings (q : Port) : Port :=
  { q with
    state := .idle, peak := 0, activity := false, quiet := 0, armed := false, holder := none, queue := []
    misses := 0, saturations := 0, missReported := false, talkback := false, counter := 0 }

theorem Port.settings_eq_iff {q r : Port} : r.settings = q.settings ↔
    r.choice = q.choice ∧ r.threshold = q.threshold ∧ r.notice = q.notice ∧ r.screenRecipe = q.screenRecipe
      ∧ r.holdRecipe = q.holdRecipe ∧ r.airRecipe = q.airRecipe ∧ r.extras = q.extras ∧ r.pad = q.pad
      ∧ r.source = q.source ∧ r.talkGain = q.talkGain ∧ r.duck = q.duck ∧ r.period = q.period
      ∧ r.onTime = q.onTime ∧ r.amplitude = q.amplitude := by
  simp [Port.settings]

/-- A port that has moved on with its settings as they were, and its counts still in their ranges. -/
structure Port.Advances (q r : Port) : Prop where
  settings : r.settings = q.settings
  inRange : q.InRange → r.InRange

theorem Port.Advances.refl (q : Port) : q.Advances q := ⟨rfl, id⟩

theorem Port.Advances.trans {q r u : Port} (h : q.Advances r) (k : r.Advances u) : q.Advances u :=
  ⟨k.settings.trans h.settings, fun hq => k.inRange (h.inRange hq)⟩

theorem Port.Advances.ite {q r u : Port} {c : Prop} [Decidable c] (h : q.Advances r) (k : q.Advances u) :
    q.Advances (if c then r else u) := by
  split
  · exact h
  · exact k

theorem Port.advances_withClaims (q : Port) (holder : Option Tag) (queue : List Tag) :
    q.Advances { q with holder := holder, queue := queue } := ⟨rfl, fun hq => { hq with }⟩

theorem Port.advances_withTalkback (q : Port) (on : Bool) : q.Advances { q with talkback := on } :=
  ⟨rfl, fun hq => { hq with }⟩

theorem Port.advances_withState (q : Port) (state : PortState) : q.Advances { q with state := state } :=
  ⟨rfl, fun hq => { hq with }⟩

theorem Port.advances_withCounter (q : Port) (counter : Nat) (hcounter : q.InRange → counter < q.period) :
    q.Advances { q with counter := counter } := ⟨rfl, fun hq => { hq with counter := hcounter hq }⟩

theorem Port.advances_emptyClaims (q : Port) : q.Advances q.emptyClaims := q.advances_withClaims _ _

theorem Port.advances_resetMonitor (q : Port) : q.Advances q.resetMonitor :=
  ⟨rfl, fun hq => { hq with quiet := Nat.zero_le _, armed := rfl }⟩

theorem Port.advances_clearCounts (q : Port) : q.Advances q.clearCounts :=
  ⟨rfl, fun hq => { hq with misses := Nat.zero_le _, saturations := Nat.zero_le _ }⟩

theorem Port.advances_leaveAir (q : Port) : q.Advances q.leaveAir := by
  unfold Port.leaveAir
  split
  · exact q.advances_withClaims _ _
  · exact .refl q

/-- A port emptied: to IDLE or OUT_OF_SERVICE (R55, R97, R131). -/
theorem Port.advances_emptied (q : Port) (state : PortState) :
    q.Advances { q.emptyClaims.resetMonitor with state := state, talkback := false } :=
  ((q.advances_emptyClaims.trans (Port.advances_resetMonitor _)).trans (Port.advances_withState _ state)).trans
    (Port.advances_withTalkback _ false)

/-- The monitor reset of a port that leaves IDLE, after what leaving AIR does (R55, R96). -/
theorem Port.advances_left (q : Port) (c d : Prop) [Decidable c] [Decidable d] :
    q.Advances (if d then (if c then q.leaveAir else q).resetMonitor else (if c then q.leaveAir else q)) := by
  have hleft : q.Advances (if c then q.leaveAir else q) := .ite q.advances_leaveAir (.refl q)
  exact .ite (hleft.trans (Port.advances_resetMonitor _)) hleft

theorem Port.advances_changeState (q : Port) (new : PortState) : q.Advances (q.changeState new) := by
  cases new with
  | idle => exact q.advances_emptied .idle
  | outOfService => exact q.advances_emptied .outOfService
  | screen => exact (q.advances_left _ _).trans (Port.advances_withState _ _)
  | hold =>
    refine ((q.advances_left (q.state = .air) (q.state = .idle)).trans (Port.advances_withState _ .hold)).trans
      (Port.advances_withCounter _ 0 fun hr => ?_)
    have := hr.period.1
    omega
  | air => exact (Port.Advances.ite q.advances_resetMonitor (.refl q)).trans (Port.advances_withState _ _)

theorem Port.advances_clear (q : Port) : q.Advances q.clear :=
  ((((Port.Advances.ite (q.advances_changeState .idle) (.refl q)).trans (Port.advances_emptyClaims _)).trans
    (Port.advances_resetMonitor _)).trans (Port.advances_clearCounts _)).trans (Port.advances_withTalkback _ false)

theorem Port.advances_close (q : Port) : q.Advances q.close :=
  ((Port.Advances.ite (.refl q) (q.advances_changeState .idle)).trans (Port.advances_emptyClaims _)).trans
    (Port.advances_withTalkback _ false)

theorem claimQueueing_shape (heard : Fin 16 → Option (List Tag)) (q : Port) :
    ∃ queue, claimQueueing heard q = { q with queue := queue } := by
  unfold claimQueueing
  split
  · exact ⟨_, rfl⟩
  · exact ⟨q.queue, rfl⟩

theorem claimGrant_shape (running : Bool) (q : Port) :
    ∃ holder queue, claimGrant running q = { q with holder := holder, queue := queue } := by
  unfold claimGrant
  split
  · split
    · exact ⟨_, _, rfl⟩
    · exact ⟨q.holder, q.queue, rfl⟩
  · exact ⟨q.holder, q.queue, rfl⟩

/-- The claim update writes the claim record alone. -/
theorem claimUpdate_shape (heard : Fin 16 → Option (List Tag)) (absent : Vector Bool 16) (running : Bool) (q : Port) :
    ∃ holder queue, claimUpdate heard absent running q = { q with holder := holder, queue := queue } := by
  unfold claimUpdate
  obtain ⟨queue, hqueued⟩ := claimQueueing_shape heard (claimRemoval heard (claimRelease heard (claimAbsence absent q)))
  rw [hqueued]
  exact claimGrant_shape running _

theorem Port.advances_claimUpdate (heard : Fin 16 → Option (List Tag)) (absent : Vector Bool 16) (running : Bool)
    (q : Port) : q.Advances (claimUpdate heard absent running q) := by
  obtain ⟨holder, queue, h⟩ := claimUpdate_shape heard absent running q
  exact h ▸ q.advances_withClaims holder queue

theorem quietAfter_le (activity : Bool) (quiet : Nat) : quietAfter activity quiet ≤ 600 := by
  unfold quietAfter; split <;> omega

/-- The armed flag says that the quiet count is full (R66). -/
theorem armedAfter_eq (activity : Bool) (quiet : Nat) :
    armedAfter activity quiet = decide (quietAfter activity quiet = 600) := by
  have := quietAfter_le activity quiet
  cases activity <;> simp [armedAfter, quietAfter] at this ⊢

theorem Port.advances_measured (block : Block) (q : Port) : q.Advances (measured block q) :=
  ⟨rfl, fun hq => { hq with quiet := quietAfter_le _ _, armed := armedAfter_eq _ _ }⟩

theorem addCount_le (count more : Nat) : addCount count more ≤ 65535 := min_le_left _ _

theorem Port.advances_countReturn (s : State) (p : Fin 8) (q : Port) : q.Advances (s.countReturn p q) :=
  ⟨rfl, fun hq => { hq with misses := addCount_le _ _, saturations := addCount_le _ _ }⟩

theorem counterAfter_lt {q : Port} (hq : q.InRange) : counterAfter q < q.period := by
  have := hq.counter
  unfold counterAfter
  split <;> omega

/-! ## What leaves the settings of all ports alone -/

/-- The part has moved on with the settings of its ports as they were. -/
structure State.Advances (s t : State) : Prop where
  number : t.stationNumber = s.stationNumber
  ports : ∀ p, (s.ports.get p).Advances (t.ports.get p)

theorem State.Advances.of_ports_eq {s t : State} (hn : t.stationNumber = s.stationNumber) (hp : t.ports = s.ports) :
    s.Advances t := ⟨hn, fun _ => hp ▸ .refl _⟩

theorem State.Advances.mapPorts (s : State) (f : Fin 8 → Port → Port)
    (hf : ∀ p, (s.ports.get p).Advances (f p (s.ports.get p))) : s.Advances (s.mapPorts f) :=
  ⟨rfl, fun p => by simpa using hf p⟩

/-- The settings that the guard of a minus set looks at. -/
def Port.routes (q : Port) : List RecipeEntry × List RecipeEntry × List RecipeEntry × List Tag × Option Tag :=
  (q.screenRecipe, q.holdRecipe, q.airRecipe, q.extras, q.source)

theorem State.Guarded.of_routes {s t : State} {p : Fin 8} (hn : t.stationNumber = s.stationNumber)
    (hp : (t.ports.get p).routes = (s.ports.get p).routes) (hs : s.Guarded p) : t.Guarded p := by
  simp only [Port.routes, Prod.mk.injEq] at hp
  obtain ⟨hscreen, hhold, hair, hextras, hsource⟩ := hp
  have hminus : t.minusSet p = s.minusSet p := by
    simp only [State.minusSet, State.portTag, State.own, hn, hextras]
  exact ⟨hextras ▸ hs.few, hminus ▸ hs.once, by rw [hextras, hn]; exact hs.own,
    by rw [hminus, hscreen]; exact hs.screen,
    by rw [hminus, hhold]; exact hs.hold, by rw [hminus, hair]; exact hs.air,
    by rw [hminus, hsource]; exact hs.source⟩

theorem Port.Advances.routes {q r : Port} (h : q.Advances r) : r.routes = q.routes := by
  have := congrArg Port.routes h.settings
  exact this

theorem State.Advances.settingsSound {s t : State} (h : s.Advances t) (hs : s.SettingsSound) : t.SettingsSound :=
  fun p => ⟨(h.ports p).inRange (hs p).1, (hs p).2.of_routes h.number (h.ports p).routes⟩

theorem State.SettingsSound.of_ports_eq {s t : State} (hs : s.SettingsSound) (hn : t.stationNumber = s.stationNumber)
    (hp : t.ports = s.ports) : t.SettingsSound := (State.Advances.of_ports_eq hn hp).settingsSound hs

/-! ## The taken strobe (R39) -/

theorem State.faulted_advances (s : State) (inp : StrobeInput) (p : Fin 8) :
    (s.ports.get p).Advances ((s.faulted inp).ports.get p) := by
  rw [State.faulted_port]
  exact .ite (Port.advances_changeState _ _) (.refl _)

theorem State.listened_advances (s : State) (inp : StrobeInput) (p : Fin 8) :
    (s.ports.get p).Advances ((s.listened inp).ports.get p) := by
  have hechoed : (s.ports.get p).Advances ((s.echoed inp).ports.get p) := by
    rw [State.echoed_port]
    exact (s.faulted_advances inp p).trans (.ite (Port.advances_emptyClaims _) (.refl _))
  rw [State.listened_port]
  exact hechoed.trans (.ite (Port.advances_emptyClaims _) (.refl _))

theorem State.checked_advances (s : State) (inp : StrobeInput) (p : Fin 8) :
    (s.ports.get p).Advances ((s.checked inp).ports.get p) := by
  have hclaimed : (s.ports.get p).Advances ((s.claimed inp).ports.get p) := by
    rw [State.claimed_port]
    exact (s.listened_advances inp p).trans (.ite (Port.advances_claimUpdate _ _ _ _) (.refl _))
  rw [State.checked_port]
  exact hclaimed.trans (.ite (Port.advances_close _) (.refl _))

theorem State.cadenced_advances (s : State) (inp : StrobeInput) (p : Fin 8) :
    (s.ports.get p).Advances ((s.cadenced inp).ports.get p) := by
  have hmeasured : (s.ports.get p).Advances ((s.measured inp).ports.get p) := by
    rw [State.measured_port]
    exact (s.checked_advances inp p).trans (.ite (Port.advances_measured _ _) (.refl _))
  have hreturned : (s.ports.get p).Advances ((s.returned inp).ports.get p) := by
    rw [State.returned_port]
    exact hmeasured.trans (.ite (Port.advances_countReturn _ _ _) (.refl _))
  rw [State.cadenced_port]
  exact hreturned.trans (.ite (Port.advances_withCounter _ _ counterAfter_lt) (.refl _))

theorem State.afterStrobe_advances_of_taken (s : State) (inp : StrobeInput) (h : s.takesStrobes) :
    s.Advances (s.afterStrobe inp) :=
  ⟨s.afterStrobe_stationNumber inp h, fun p => by rw [s.afterStrobe_ports inp h]; exact s.cadenced_advances inp p⟩

/-- No strobe edits a setting. -/
theorem State.afterStrobe_advances (s : State) (inp : StrobeInput) : s.Advances (s.afterStrobe inp) := by
  refine State.afterStrobe_keeps (inv := s.Advances) inp (fun _ h => ⟨h.number, h.ports⟩)
    (fun _ h => ⟨h.number, h.ports⟩)
    (fun u hu h => ?_) (.of_ports_eq rfl rfl)
  have hu := u.afterStrobe_advances_of_taken inp hu
  exact ⟨hu.number.trans h.number, fun p => (h.ports p).trans (hu.ports p)⟩

theorem State.enterUntimed_port (s : State) (p : Fin 8) :
    s.enterUntimed.ports.get p = (s.ports.get p).emptyClaims := by
  simp [State.enterUntimed, State.emptyAllClaims]

theorem lossPass_advances (s : State) : s.Advances (lossPass s).st := by
  have huntimed : s.Advances s.enterUntimed :=
    ⟨by simp [State.enterUntimed], fun p => by rw [State.enterUntimed_port]; exact Port.advances_emptyClaims _⟩
  unfold lossPass
  dsimp only
  split
  · exact huntimed
  · exact huntimed
  · exact huntimed
  all_goals exact .of_ports_eq rfl rfl

theorem State.missStrobe_advances (s : State) : s.Advances s.missStrobe := by
  unfold State.missStrobe
  dsimp only
  split
  · have h := lossPass_advances { s with monitor := { s.monitor with condition := .lost, reference := none, missed :=
      4 } }
    exact ⟨by rw [State.raiseAll_stationNumber]; exact h.number, fun p => by rw [State.raiseAll_ports]; exact h.ports p⟩
  · exact .of_ports_eq rfl rfl

/-! ## The edits of the requests -/

theorem firstPlaces_subset (tags : List Tag) : ∀ t ∈ firstPlaces tags, t ∈ tags := by
  induction tags with
  | nil => simp [firstPlaces]
  | cons u rest ih =>
    intro t ht
    rcases List.mem_cons.mp ht with rfl | ht
    · exact List.mem_cons_self
    · exact List.mem_cons_of_mem _ (ih t (List.mem_of_mem_filter ht))

theorem firstPlaces_length_le (tags : List Tag) : (firstPlaces tags).length ≤ tags.length := by
  induction tags with
  | nil => simp [firstPlaces]
  | cons u rest ih => exact Nat.succ_le_succ ((List.length_filter_le _ _).trans ih)

theorem firstPlaces_nodup (tags : List Tag) : (firstPlaces tags).Nodup := by
  induction tags with
  | nil => exact List.nodup_nil
  | cons u rest ih => exact List.nodup_cons.mpr ⟨by simp, ih.filter _⟩

theorem recipeNames_eq_true_iff (recipe : List RecipeEntry) (tag : Tag) :
    recipeNames recipe tag = true ↔ tag ∈ recipe.map (·.tag) := by
  simp [recipeNames]

theorem regain_tags (recipe : List RecipeEntry) (tag : Tag) (gain : Nat) :
    (regain recipe tag gain).map (·.tag) = recipe.map (·.tag) := by
  simp only [regain, List.map_map]
  refine List.map_congr_left fun e _ => ?_
  simp only [Function.comp]
  split <;> rfl

theorem recipeSound_regain {recipe : List RecipeEntry} {tag : Tag} {gain : Nat} (h : recipeSound recipe)
    (hgain : gain ≤ 32768) : recipeSound (regain recipe tag gain) := by
  obtain ⟨hfew, honce, hgains⟩ := h
  refine ⟨by simpa [regain] using hfew, by rwa [regain_tags], fun e he => ?_⟩
  obtain ⟨old, hold, rfl⟩ := List.mem_map.mp he
  split
  · exact hgain
  · exact hgains old hold

theorem recipeSound_append {recipe : List RecipeEntry} {tag : Tag} {gain : Nat} (h : recipeSound recipe)
    (hgain : gain ≤ 32768) (hnew : recipeNames recipe tag = false) (hroom : recipe.length < 6) :
    recipeSound (recipe ++ [{ tag := tag, gain := gain }]) := by
  obtain ⟨hfew, honce, hgains⟩ := h
  have hfresh : tag ∉ recipe.map (·.tag) := fun hmem => by simp [(recipeNames_eq_true_iff recipe tag).mpr hmem] at hnew
  refine ⟨by simpa using hroom, ?_, fun e he => ?_⟩
  · rw [List.map_append, List.nodup_append]
    exact ⟨honce, by simp, fun a ha b hb => by rintro rfl; simp at hb; exact hfresh (hb ▸ ha)⟩
  · rcases List.mem_append.mp he with he | he
    · exact hgains e he
    · rw [List.mem_singleton.mp he]; exact hgain

theorem recipeSound_filter {recipe : List RecipeEntry} (keep : RecipeEntry → Bool) (h : recipeSound recipe) :
    recipeSound (recipe.filter keep) := by
  obtain ⟨hfew, honce, hgains⟩ := h
  exact ⟨(List.length_filter_le _ _).trans hfew, honce.sublist (List.filter_sublist.map _),
    fun e he => hgains e (List.mem_of_mem_filter he)⟩

theorem recipeClean_regain {minus : List Tag} {recipe : List RecipeEntry} {tag : Tag} {gain : Nat}
    (h : recipeClean minus recipe) : recipeClean minus (regain recipe tag gain) := by
  intro e he
  obtain ⟨old, hold, rfl⟩ := List.mem_map.mp he
  have htag : (if old.tag = tag then { old with gain := gain } else old).tag = old.tag := by split <;> rfl
  rw [htag]
  exact h old hold

theorem recipeClean_append {minus : List Tag} {recipe : List RecipeEntry} {tag : Tag} {gain : Nat}
    (h : recipeClean minus recipe) (hclean : tag.kind ≠ .mix → tag ∉ minus) :
    recipeClean minus (recipe ++ [{ tag := tag, gain := gain }]) := by
  intro e he
  rcases List.mem_append.mp he with he | he
  · exact h e he
  · rw [List.mem_singleton.mp he]; exact hclean

/-- A recipe edited keeps the ranges when the new recipe is sound. -/
theorem Port.InRange.setRecipe {q : Port} (hq : q.InRange) (name : PortState) (recipe : List RecipeEntry)
    (h : recipeSound (q.recipeNamed name) → recipeSound recipe) : (q.setRecipe name recipe).InRange := by
  cases name with
  | screen => exact { hq with screen := h hq.screen }
  | hold => exact { hq with hold := h hq.hold }
  | air => exact { hq with air := h hq.air }
  | _ => exact hq

/-- What SET ENTRY and REMOVE ENTRY leave of a port. -/
theorem Port.setRecipe_extras (q : Port) (name : PortState) (recipe : List RecipeEntry) :
    (q.setRecipe name recipe).extras = q.extras ∧ (q.setRecipe name recipe).source = q.source := by
  cases name <;> exact ⟨rfl, rfl⟩

@[simp] theorem State.updPort_minusSet (s : State) (p : Fin 8) (f : Port → Port) :
    (s.updPort p f).minusSet p = s.portTag p :: (f (s.ports.get p)).extras := by
  simp [State.minusSet, State.portTag, State.own]

/-- The guard of a port whose recipe is edited stands when the new recipe is clean. -/
theorem State.Guarded.setRecipe {s : State} {p : Fin 8} {f : Port → Port} (hs : s.Guarded p) (name : PortState)
    (recipe : List RecipeEntry) (hf : f (s.ports.get p) = (s.ports.get p).setRecipe name recipe)
    (h : recipeClean (s.minusSet p) ((s.ports.get p).recipeNamed name) → recipeClean (s.minusSet p) recipe) :
    (s.updPort p f).Guarded p := by
  obtain ⟨hextras, hsource⟩ := (s.ports.get p).setRecipe_extras name recipe
  have hminus : (s.updPort p f).minusSet p = s.minusSet p := by
    rw [State.updPort_minusSet, hf, hextras]; rfl
  have hport : (s.updPort p f).ports.get p = (s.ports.get p).setRecipe name recipe := by simp [hf]
  refine ⟨by rw [hport, hextras]; exact hs.few, by rw [hminus]; exact hs.once,
    by rw [hport, hextras]; exact hs.own, ?_, ?_, ?_, by rw [hport, hsource, hminus]; exact hs.source⟩
  all_goals rw [hport, hminus]
  · cases name with
    | screen => exact h hs.screen
    | _ => exact hs.screen
  · cases name with
    | hold => exact h hs.hold
    | _ => exact hs.hold
  · cases name with
    | air => exact h hs.air
    | _ => exact hs.air

/-- A recipe that names none of the tags given by a direct entry is clean of the extras stored from them. -/
theorem recipeClean_extras {own : Tag} {tags : List Tag} {recipe : List RecipeEntry} {minus : List Tag}
    (h : recipeClean (own :: minus) recipe)
    (hdirect : ∀ t ∈ tags, t.kind ≠ .mix → recipeNames recipe t = false) :
    recipeClean (own :: storedExtras own tags) recipe := by
  intro e he hkind hmem
  rcases List.mem_cons.mp hmem with heq | hmem
  · exact h e he hkind (heq ▸ List.mem_cons_self)
  · have htag : e.tag ∈ tags := firstPlaces_subset tags _ (List.mem_of_mem_filter hmem)
    have hnamed := (recipeNames_eq_true_iff recipe e.tag).mpr (List.mem_map_of_mem he)
    rw [hdirect e.tag htag hkind] at hnamed
    cases hnamed

theorem State.Guarded.setExtras {s : State} {p : Fin 8} {f : Port → Port} (hs : s.Guarded p) {tags : List Tag}
    (hf : f (s.ports.get p) = { s.ports.get p with extras := storedExtras (s.portTag p) tags })
    (hfew : tags.length ≤ 3) (hown : ∀ t ∈ tags, t.kind ≠ .mix ∧ t.station = s.stationNumber)
    (hdirect : ∀ t ∈ tags, (s.ports.get p).namesDirectly t = false)
    (hsource : ∀ t ∈ tags, (s.ports.get p).source ≠ some t) : (s.updPort p f).Guarded p := by
  have hmem : ∀ t ∈ storedExtras (s.portTag p) tags, t ∈ tags := fun t ht =>
    firstPlaces_subset tags t (List.mem_of_mem_filter ht)
  have hminus : (s.updPort p f).minusSet p = s.portTag p :: storedExtras (s.portTag p) tags := by
    rw [State.updPort_minusSet, hf]
  have hport : (s.updPort p f).ports.get p = { s.ports.get p with extras := storedExtras (s.portTag p) tags } := by
    simp [hf]
  have hnames : ∀ t ∈ tags, t.kind ≠ .mix → recipeNames (s.ports.get p).screenRecipe t = false
      ∧ recipeNames (s.ports.get p).holdRecipe t = false ∧ recipeNames (s.ports.get p).airRecipe t = false := by
    intro t ht hkind
    have := hdirect t ht
    simpa [Port.namesDirectly, hkind, and_assoc] using this
  refine ⟨?few, ?once, ?own, ?screen, ?hold, ?air, ?source⟩
  all_goals (try rw [hport]); (try rw [hminus])
  case few => exact ((List.length_filter_le _ _).trans (firstPlaces_length_le tags)).trans hfew
  case once => exact List.nodup_cons.mpr ⟨by simp [storedExtras], (firstPlaces_nodup tags).filter _⟩
  case own => exact fun t ht => ⟨(hown t (hmem t ht)).2, (hown t (hmem t ht)).1⟩
  case screen => exact recipeClean_extras hs.screen fun t ht hkind => (hnames t ht hkind).1
  case hold => exact recipeClean_extras hs.hold fun t ht hkind => (hnames t ht hkind).2.1
  case air => exact recipeClean_extras hs.air fun t ht hkind => (hnames t ht hkind).2.2
  case source =>
    intro t hsome
    obtain ⟨hkind, hclean⟩ := hs.source t hsome
    refine ⟨hkind, fun ht => ?_⟩
    rcases List.mem_cons.mp ht with rfl | ht
    · exact hclean List.mem_cons_self
    · exact hsource t (hmem t ht) hsome

theorem State.Guarded.setCue {s : State} {p : Fin 8} {f : Port → Port} (hs : s.Guarded p) {source : Option Tag}
    {gain duck : Nat}
    (hf : f (s.ports.get p) = { s.ports.get p with source := source, talkGain := gain, duck := duck })
    (hsource : s.sourceConflicts p source = false) : (s.updPort p f).Guarded p := by
  have hminus : (s.updPort p f).minusSet p = s.minusSet p := by rw [State.updPort_minusSet, hf]; rfl
  have hport : (s.updPort p f).ports.get p = { s.ports.get p with source := source, talkGain := gain, duck :=
    duck } := by
    simp [hf]
  refine ⟨by rw [hport]; exact hs.few, by rw [hminus]; exact hs.once, by rw [hport]; exact hs.own,
    by rw [hport, hminus]; exact hs.screen, by rw [hport, hminus]; exact hs.hold, by rw [hport, hminus]; exact hs.air,
      ?_⟩
  rw [hport, hminus]
  rintro t rfl
  simpa [State.sourceConflicts] using hsource

/-- A port edited by a request has its settings in their ranges and its minus set guarded. -/
theorem PortEdit.settingsSound {s : State} {p : Fin 8} {f : Port → Port} (hedit : PortEdit s p (f (s.ports.get p)))
    (hq : (s.ports.get p).InRange) (hg : s.Guarded p) : (f (s.ports.get p)).InRange ∧ (s.updPort p f).Guarded p := by
  have hstands : (f (s.ports.get p)).routes = (s.ports.get p).routes → (s.updPort p f).Guarded p :=
    fun h => State.Guarded.of_routes (s := s) rfl (by rw [State.updPort_ports, upd_get_same, h]) hg
  generalize hf : f (s.ports.get p) = r at hedit hstands
  cases hedit with
  | moved target => exact ⟨(Port.advances_changeState _ _).inRange hq, hstands (Port.advances_changeState _ _).routes⟩
  | cleared => exact ⟨(Port.advances_clear _).inRange hq, hstands (Port.advances_clear _).routes⟩
  | monitor choice threshold notice hthreshold => exact ⟨{ hq with threshold := hthreshold }, hstands rfl⟩
  | regained name tag gain hgain =>
    exact ⟨hq.setRecipe name _ fun h => recipeSound_regain h hgain, hg.setRecipe name _ hf recipeClean_regain⟩
  | entered name tag gain hgain hclean hnew hroom =>
    exact ⟨hq.setRecipe name _ fun h => recipeSound_append h hgain hnew hroom,
      hg.setRecipe name _ hf fun h => recipeClean_append h hclean⟩
  | removed name tag =>
    exact ⟨hq.setRecipe name _ (recipeSound_filter _),
      hg.setRecipe name _ hf fun h e he => h e (List.mem_of_mem_filter he)⟩
  | extras tags hfew hown hdirect hsource => exact ⟨{ hq with }, hg.setExtras hf hfew hown hdirect hsource⟩
  | pad k hpad => exact ⟨{ hq with pad := hpad }, hstands rfl⟩
  | cue source gain duck hsource hgain hduck =>
    exact ⟨{ hq with talkGain := hgain, duck := hduck }, hg.setCue hf hsource⟩
  | talking on => exact ⟨{ hq with }, hstands rfl⟩
  | cadence period onTime amplitude hperiod honTime hamplitude =>
    exact ⟨{ hq with period := hperiod, onTime := honTime, amplitude := hamplitude
                     counter := Nat.lt_of_lt_of_le Nat.zero_lt_two hperiod.1 }, hstands rfl⟩

/-- Every request keeps the settings sound. -/
theorem RequestChange.settingsSound {s t : State} (h : RequestChange s t) (hs : s.SettingsSound) : t.SettingsSound := by
  cases h with
  | nothing => exact hs
  | countsCleared =>
    exact State.Advances.settingsSound ⟨by simp, fun p => by simpa using Port.advances_clearCounts _⟩ hs
  | closing =>
    exact State.Advances.settingsSound
      ⟨by simp, fun p => by rw [State.silence_ports, State.enterClosing_port]; exact Port.advances_close _⟩ hs
  | restored g =>
    exact (State.Advances.mapPorts s _ fun p => .ite (Port.advances_changeState _ _) (.refl _)).settingsSound hs
  | port p f hedit =>
    intro j
    by_cases hj : p = j
    · subst hj
      rw [State.updPort_ports, upd_get_same]
      exact hedit.settingsSound (hs p).1 (hs p).2
    · have hport : (s.updPort p f).ports.get j = s.ports.get j := upd_get_ne _ _ _ _ hj
      rw [hport]
      exact ⟨(hs j).1, State.Guarded.of_routes (s := s) rfl (by rw [hport]) (hs j).2⟩
  | _ => exact hs.of_ports_eq rfl rfl

/-! ## Resets, and the step -/

theorem Port.reset_inRange : Port.reset.InRange := by
  constructor <;> simp [Port.reset, recipeSound]

/-- A port with its reset settings is guarded, whatever the station number. -/
theorem State.guarded_of_reset {s : State} {p : Fin 8} (h : s.ports.get p = Port.reset) : s.Guarded p := by
  constructor <;> simp [State.minusSet, h, Port.reset, recipeClean]

theorem State.settingsSound_of_reset {s : State} (h : ∀ p, s.ports.get p = Port.reset) : s.SettingsSound :=
  fun p => ⟨h p ▸ Port.reset_inRange, s.guarded_of_reset (h p)⟩

/-- The beginning of a hold: another reset holds already, or the reset begins (R166). -/
theorem State.holdReset_cases (s : State) (cause : ResetCause) :
    ∃ resets, s.holdReset cause = { s with resets := resets }
      ∨ s.holdReset cause = { s.beginReset with resets := resets } := by
  obtain ⟨resets, h⟩ : ∃ resets,
      s.holdReset cause = { (if s.inReset then s else s.beginReset) with resets := resets } := by
    cases cause <;> exact ⟨_, rfl⟩
  by_cases hin : s.inReset = true
  · exact ⟨resets, .inl (by rw [h, if_pos hin])⟩
  · exact ⟨resets, .inr (by rw [h, if_neg hin])⟩

theorem State.beginReset_ports (s : State) : s.beginReset.ports = s.ports := by simp [State.beginReset]

theorem State.beginReset_stationNumber (s : State) : s.beginReset.stationNumber = s.stationNumber := by
  simp [State.beginReset]

theorem State.beginReset_station (s : State) : s.beginReset.station = s.station := by simp [State.beginReset]

/-- The end of a hold: another hold lasts, or the reset ends (R166). -/
theorem State.releaseReset_cases (s : State) (cause : ResetCause) (fin : ResetEnd) :
    (∃ resets, s.releaseReset cause fin = { s with resets := resets })
      ∨ s.releaseReset cause fin = resetEnded s cause fin := by
  unfold State.releaseReset
  dsimp only
  split_ifs
  · exact .inl ⟨_, rfl⟩
  · exact .inr rfl

theorem Move.settingsSound {s t : State} (m : Move s t) (hs : s.SettingsSound) : t.SettingsSound := by
  cases m with
  | strobe inp => exact (s.afterStrobe_advances inp).settingsSound hs
  | missed => exact s.missStrobe_advances.settingsSound hs
  | request code args => exact (decideRequest_change code args s).settingsSound hs
  | hold cause =>
    obtain ⟨resets, h | h⟩ := s.holdReset_cases cause
    · rw [h]; exact hs.of_ports_eq rfl rfl
    · rw [h]; exact hs.of_ports_eq s.beginReset_stationNumber s.beginReset_ports
  | release cause fin =>
    rcases s.releaseReset_cases cause fin with ⟨resets, h⟩ | h
    · rw [h]; exact hs.of_ports_eq rfl rfl
    · exact h ▸ State.settingsSound_of_reset fun p => by simp [resetEnded, State.reset]
  | sample _ adin h =>
    unfold execSampleFrame at h
    split_ifs at h <;> cases h <;> exact hs.of_ports_eq rfl rfl
  | _ => exact hs.of_ports_eq rfl rfl

/-- Settles O56: a strobe moves a port in what is no setting, a request edits settings within the guard its rule sets,
and a reset restores them. -/
theorem stepsKeepTheSettingsSound : Obligations.StepsKeepTheSettingsSound :=
  step_keeps State.SettingsSound (fun _ _ hs => hs.of_ports_eq rfl rfl)
    fun _ _ m => m.settingsSound

end Sys2Proof.Machine
end

section
/-! The claim records (R88, R90, R95, R98, R131). What empties a claim record leaves it sound; the claim update only
takes claims away, queues new wants where there is room, and grants to the head of the queue. -/

namespace Sys2Proof.Machine

/-! ## The mix tags in their order (R94) -/

theorem mem_mixTagsInOrder (tag : Tag) : tag ∈ mixTagsInOrder ↔ tag.kind = .mix := by
  rw [Tag.kind, kindOfChannel_eq_mix_iff]
  simp only [mixTagsInOrder, List.mem_flatMap, List.mem_map, List.mem_finRange, true_and]
  constructor
  · rintro ⟨l, m, rfl⟩
    exact Nat.le_add_right 12 m.val
  · intro h
    refine ⟨tag.station, ⟨tag.channel.val - 12, by omega⟩, ?_⟩
    have hchannel : mixChannel ⟨tag.channel.val - 12, by omega⟩ = tag.channel :=
      Fin.ext (by simp only [mixChannel]; omega)
    rw [hchannel]

theorem mixTagsInOrder_pairwise :
    mixTagsInOrder.Pairwise fun a b => 16 * a.station.val + a.channel.val < 16 * b.station.val + b.channel.val := by
  refine List.pairwise_flatMap.mpr ⟨fun l _ => ?_, ?_⟩
  · refine List.pairwise_map.mpr ((List.pairwise_lt_finRange 4).imp fun {m n} hmn => ?_)
    simp only [mixChannel]
    omega
  · refine (List.pairwise_lt_finRange 16).imp fun {l k} hlk a ha b hb => ?_
    obtain ⟨m, _, rfl⟩ := List.mem_map.mp ha
    obtain ⟨n, _, rfl⟩ := List.mem_map.mp hb
    simp only [mixChannel]
    omega

theorem mixTagsInOrder_nodup : mixTagsInOrder.Nodup :=
  mixTagsInOrder_pairwise.imp fun h heq => by rw [heq] at h; exact Nat.lt_irrefl _ h

/-! ## Sound claim records -/

/-- Only the port state, the claim record and the talkback count. -/
theorem Port.ClaimSound.congr {q r : Port} {active : Bool} (h : q.ClaimSound active) (hstate : r.state = q.state)
    (hholder : r.holder = q.holder) (hqueue : r.queue = q.queue) (htalk : r.talkback = q.talkback) :
    r.ClaimSound active := by
  have hserved : r.served = q.served := by unfold Port.served; rw [hstate]
  exact ⟨hqueue ▸ h.few, hqueue ▸ h.once, by rw [hholder, hqueue]; exact h.apart,
    by rw [hholder, hqueue]; exact h.mixes,
    by rw [hholder, hstate]; exact h.held, by rw [hserved, hholder, hqueue, htalk]; exact h.idle,
    by rw [hholder, hqueue]; exact h.quiet⟩

/-- An empty claim record is sound on every station. -/
theorem Port.ClaimSound.of_empty {q : Port} (active : Bool) (hholder : q.holder = none) (hqueue : q.queue = [])
    (htalk : q.served = false → q.talkback = false) : q.ClaimSound active :=
  ⟨by simp [hqueue], by simp [hqueue], by simp [hholder], by simp [hholder, hqueue], by simp [hholder],
    fun hserved => ⟨hholder, hqueue, htalk hserved⟩, fun _ => ⟨hholder, hqueue⟩⟩

/-- A claim record that is sound stays so when the station state moves on, unless it must then be empty. -/
theorem Port.ClaimSound.of_active {q : Port} {active after : Bool} (h : q.ClaimSound active)
    (hactive : after = false → active = false) : q.ClaimSound after :=
  { h with quiet := fun hafter => h.quiet (hactive hafter) }

/-- Claims taken away from a sound record leave a sound one. -/
theorem Port.ClaimSound.restrict {q : Port} {active : Bool} (h : q.ClaimSound active) {holder : Option Tag}
    {queue : List Tag} (hholder : ∀ m, holder = some m → q.holder = some m) (hqueue : queue.Sublist q.queue) :
    ({ q with holder := holder, queue := queue } : Port).ClaimSound active := by
  have hnone : q.holder = none → holder = none := fun hq =>
    Option.eq_none_iff_forall_ne_some.mpr fun m hm => by rw [hholder m hm] at hq; cases hq
  have hnil : q.queue = [] → queue = [] := fun hq => List.eq_nil_of_sublist_nil (hq ▸ hqueue)
  refine ⟨hqueue.length_le.trans h.few, h.once.sublist hqueue, fun m hm hmem => h.apart m (hholder m hm)
    (hqueue.subset hmem),
    fun m hm => h.mixes m ?_, fun hne => h.held fun hq => hne (hnone hq),
    fun hserved => ?_, fun hactive => ?_⟩
  · rcases List.mem_append.mp hm with hm | hm
    · exact List.mem_append_left _ (Option.mem_toList.mpr (hholder m (Option.mem_toList.mp hm)))
    · exact List.mem_append_right _ (hqueue.subset hm)
  · obtain ⟨h1, h2, h3⟩ := h.idle hserved
    exact ⟨hnone h1, hnil h2, h3⟩
  · obtain ⟨h1, h2⟩ := h.quiet hactive
    exact ⟨hnone h1, hnil h2⟩

theorem Port.ClaimSound.emptyClaims {q : Port} {active : Bool} (h : q.ClaimSound active) (after : Bool) :
    q.emptyClaims.ClaimSound after :=
  .of_empty after rfl rfl fun hserved => (h.idle hserved).2.2

theorem Port.claimSound_close (q : Port) (active : Bool) : q.close.ClaimSound active :=
  .of_empty active rfl rfl fun _ => rfl

/-! ## The claim update (R92 to R95) -/

theorem claimQueueing_sound {heard : Fin 16 → Option (List Tag)} {q : Port} {active : Bool} (h : q.ClaimSound active)
    (hactive : active = true) : (claimQueueing heard q).ClaimSound active := by
  unfold claimQueueing
  split
  next hserved =>
    have hnews : ∀ m ∈ (newWants heard q).take (4 - q.queue.length), m.kind = .mix ∧ q.holder ≠ some m
      ∧ m ∉ q.queue := by
      intro m hm
      have hm := List.mem_of_mem_take hm
      simp only [newWants, List.mem_filter, Bool.and_eq_true, bne_iff_ne, ne_eq, Bool.not_eq_true',
        List.contains_eq_mem, decide_eq_false_iff_not] at hm
      obtain ⟨hmix, ⟨_, hholder⟩, hqueue⟩ := hm
      exact ⟨(mem_mixTagsInOrder m).mp hmix, hholder, hqueue⟩
    have honce : ((newWants heard q).take (4 - q.queue.length)).Nodup :=
      (mixTagsInOrder_nodup.filter _).sublist (List.take_sublist _ _)
    have hfew := h.few
    refine ⟨?_, ?_, fun m hm hmem => ?_, fun m hm => ?_, h.held, fun hs => ?_, fun ha => ?_⟩
    · simp only [List.length_append, List.length_take]
      omega
    · exact List.nodup_append.mpr ⟨h.once, honce, fun a ha b hb hab => (hnews b hb).2.2 (hab ▸ ha)⟩
    · rcases List.mem_append.mp hmem with hmem | hmem
      · exact h.apart m hm hmem
      · exact (hnews m hmem).2.1 hm
    · rw [← List.append_assoc] at hm
      rcases List.mem_append.mp hm with hm | hm
      · exact h.mixes m hm
      · exact (hnews m hm).1
    · have : q.served = false := hs
      rw [hserved] at this
      cases this
    · rw [hactive] at ha
      cases ha
  · exact h

theorem claimGrant_sound {running : Bool} {q : Port} {active : Bool} (h : q.ClaimSound active)
    (hactive : active = true) :
    (claimGrant running q).ClaimSound active := by
  unfold claimGrant
  split
  next head rest hholder hqueue =>
    split
    next hgrants =>
      have hair : q.state = .air := by simpa using (Bool.and_eq_true_iff.mp hgrants).2
      have honce := h.once
      have hfew := h.few
      rw [hqueue] at honce hfew
      obtain ⟨hnew, honce⟩ := List.nodup_cons.mp honce
      refine ⟨by simp at hfew ⊢; omega, honce, ?_, fun m hm => h.mixes m ?_, fun _ => hair, fun hserved => ?_, ?_⟩
      · rintro m hm
        cases hm
        exact hnew
      · rw [hholder, hqueue]
        simpa using hm
      · have : q.served = false := hserved
        simp [Port.served, hair] at this
      · intro ha
        rw [hactive] at ha
        cases ha
    · exact h
  · exact h

theorem claimUpdate_sound {heard : Fin 16 → Option (List Tag)} {absent : Vector Bool 16} {running : Bool} {q : Port}
    (h : q.ClaimSound true) : (claimUpdate heard absent running q).ClaimSound true := by
  have habsence : (claimAbsence absent q).ClaimSound true :=
    h.restrict (fun _ hm => (Option.filter_eq_some_iff.mp hm).1) List.filter_sublist
  have hrelease : (claimRelease heard (claimAbsence absent q)).ClaimSound true :=
    habsence.restrict (fun _ hm => (Option.filter_eq_some_iff.mp hm).1) (List.Sublist.refl _)
  have hremoval : (claimRemoval heard (claimRelease heard (claimAbsence absent q))).ClaimSound true :=
    hrelease.restrict (fun _ => id) List.filter_sublist
  exact claimGrant_sound (claimQueueing_sound hremoval rfl) rfl

/-! ## Changes of port state (R55, R96, R97) -/

/-- A port that leaves AIR: its holder waits at the head of the queue (R96). -/
theorem Port.ClaimSound.leaveAir {q : Port} {active : Bool} (h : q.ClaimSound active) :
    q.leaveAir.ClaimSound active := by
  unfold Port.leaveAir
  split
  next m hholder =>
    have hsub : ((m :: q.queue).take 4).Sublist (m :: q.queue) := List.take_sublist _ _
    refine ⟨List.length_take_le _ _, (List.nodup_cons.mpr ⟨h.apart m hholder, h.once⟩).sublist hsub, by simp,
      fun t ht => h.mixes t ?_, by simp, fun hserved => ?_, fun ha => ?_⟩
    · simpa [hholder] using hsub.subset (by simpa using ht)
    · have := (h.idle hserved).1
      rw [hholder] at this
      cases this
    · have := (h.quiet ha).1
      rw [hholder] at this
      cases this
  · exact h

theorem Port.leaveAir_holder (q : Port) : q.leaveAir.holder = none := by
  unfold Port.leaveAir
  split
  · rfl
  next h => exact h

/-- A port without a holder may enter every state in which it is served. -/
theorem Port.ClaimSound.enter {q r : Port} {active : Bool} (h : q.ClaimSound active) (hholder : q.holder = none)
    (hserved : r.served = true) (hkeeps : r.holder = q.holder ∧ r.queue = q.queue) : r.ClaimSound active := by
  obtain ⟨hrholder, hrqueue⟩ := hkeeps
  refine ⟨hrqueue ▸ h.few, hrqueue ▸ h.once, by rw [hrholder, hrqueue]; exact h.apart,
    by rw [hrholder, hrqueue]; exact h.mixes, fun hne => absurd (hrholder.trans hholder) hne, fun hs => ?_,
    by rw [hrholder, hrqueue]; exact h.quiet⟩
  rw [hserved] at hs
  cases hs

theorem Port.ClaimSound.changeState {q : Port} {active : Bool} (h : q.ClaimSound active) {target : PortState}
    (hnew : q.state ≠ target) : (q.changeState target).ClaimSound active := by
  have hleft : (if q.state = .air then q.leaveAir else q).ClaimSound active
      ∧ (if q.state = .air then q.leaveAir else q).holder = none := by
    split
    · exact ⟨h.leaveAir, q.leaveAir_holder⟩
    next hair => exact ⟨h, by_contra fun hne => hair (h.held hne)⟩
  cases target with
  | idle => exact .of_empty active rfl rfl fun _ => rfl
  | outOfService => exact .of_empty active rfl rfl fun _ => rfl
  | screen =>
    refine hleft.1.enter hleft.2 rfl ?_
    simp only [Port.changeState]
    split <;> exact ⟨rfl, rfl⟩
  | hold =>
    refine hleft.1.enter hleft.2 rfl ?_
    simp only [Port.changeState]
    split <;> exact ⟨rfl, rfl⟩
  | air =>
    refine h.enter (by_contra fun hne => hnew (h.held hne)) rfl ?_
    simp only [Port.changeState]
    split <;> exact ⟨rfl, rfl⟩

theorem Port.claimSound_clear {q : Port} (active : Bool) : q.clear.ClaimSound active :=
  .of_empty active rfl rfl fun _ => rfl

/-! ## The taken strobe -/

theorem State.active_of_station {s t : State} (h : t.station = s.station) : t.active = s.active := by
  unfold State.active
  rw [h]

theorem State.active_eq_of_listened {s t : State} (h : t.station = s.station.listened) (hactive : s.active = true) :
    t.active = true := by
  unfold State.active at *
  rw [h]
  unfold Station.listened
  split at hactive <;> simp_all

theorem State.active_of_closedOut {s t : State} (h : t.station = s.station.closedOut) : t.active = s.active := by
  unfold State.active
  rw [h]
  unfold Station.closedOut
  cases s.station with
  | closing cause finals => dsimp only; split_ifs <;> rfl
  | _ => rfl

theorem State.active_of_afterSending {s t : State} (h : t.station = s.station.afterSending) : t.active = s.active := by
  unfold State.active
  rw [h]
  unfold Station.afterSending
  cases s.station with
  | withdrawn test => cases test <;> rfl
  | _ => rfl

theorem State.listened_claimsSound {s : State} (inp : StrobeInput) (hs : s.ClaimsSound) :
    (s.listened inp).ClaimsSound := by
  have hfaulted : ∀ p, ((s.faulted inp).ports.get p).ClaimSound s.active := fun p => by
    rw [State.faulted_port]
    split
    next hmoved => exact (hs p).changeState hmoved.2
    · exact hs p
  have hechoed : (s.echoed inp).ClaimsSound := fun p => by
    rw [State.echoed_port]
    rcases Bool.eq_false_or_eq_true s.conflicts with hc | hc
    · rw [if_pos hc]
      exact (hfaulted p).emptyClaims _
    · have hstation : (s.echoed inp).station = s.station := by rw [State.echoed_station, hc]; rfl
      rw [hc, State.active_of_station hstation]
      exact hfaulted p
  intro p
  rw [State.listened_port]
  split
  · exact (hechoed p).emptyClaims _
  · refine (hechoed p).of_active fun hafter => ?_
    by_contra hactive
    have := State.active_eq_of_listened (s.listened_station inp) (by simpa using hactive)
    rw [hafter] at this
    cases this

theorem State.checked_claimsSound {s : State} (inp : StrobeInput) (hs : s.ClaimsSound) :
    (s.checked inp).ClaimsSound := by
  have hclaimed : (s.claimed inp).ClaimsSound := fun p => by
    have hactive : (s.claimed inp).active = (s.closed inp).active := State.active_of_station (s.claimed_station inp)
    have hlistened := s.listened_claimsSound inp hs p
    rw [← State.active_of_closedOut (s.closed_station inp)] at hlistened
    rw [State.claimed_port, hactive]
    split
    next ha =>
      rw [ha] at hlistened ⊢
      exact claimUpdate_sound hlistened
    · exact hlistened
  intro p
  rw [State.checked_port]
  unfold State.checked
  rcases withdrawalPass_cases (s.claimed inp) with ⟨hc, st, hst, hactive, _⟩ | ⟨hc, _⟩
  · rw [hst, hactive, hc]
    exact hclaimed p
  · rw [if_pos hc]
    exact Port.claimSound_close _ _

theorem testPass_active (s : State) : (testPass s).st.active = s.active := by
  rcases testPass_cases s with ⟨test, hst, _, _, h⟩ | ⟨test, hst, _, _, h⟩ | ⟨_, h⟩
  · rw [h]; simp [State.active, hst]
  · rw [h]; simp [State.active, hst]
  · rw [h]; rfl

theorem State.judged_active (s : State) (inp : StrobeInput) : (s.judged inp).active = (s.checked inp).active :=
  (testPass_active _).trans (State.active_of_station (s.composed_station inp))

theorem State.afterStrobe_active (s : State) (inp : StrobeInput) (h : s.takesStrobes) :
    (s.afterStrobe inp).active = (s.checked inp).active := by
  rw [State.active_of_station (s.afterStrobe_station inp h), State.active_of_afterSending (s.transmitted_station inp),
    s.judged_active inp]

/-- What comes after the withdrawal check leaves the port state, the claim record and the talkback of a port. -/
theorem State.cadenced_claims (s : State) (inp : StrobeInput) (p : Fin 8) :
    ((s.cadenced inp).ports.get p).state = ((s.checked inp).ports.get p).state
      ∧ ((s.cadenced inp).ports.get p).holder = ((s.checked inp).ports.get p).holder
      ∧ ((s.cadenced inp).ports.get p).queue = ((s.checked inp).ports.get p).queue
      ∧ ((s.cadenced inp).ports.get p).talkback = ((s.checked inp).ports.get p).talkback := by
  rw [State.cadenced_port, State.returned_port, State.measured_port]
  split_ifs <;> exact ⟨rfl, rfl, rfl, rfl⟩

theorem State.afterStrobe_claimsSound_of_taken {s : State} (inp : StrobeInput) (h : s.takesStrobes)
    (hs : s.ClaimsSound) : (s.afterStrobe inp).ClaimsSound := by
  intro p
  rw [s.afterStrobe_active inp h, s.afterStrobe_ports inp h]
  obtain ⟨hstate, hholder, hqueue, htalk⟩ := s.cadenced_claims inp p
  exact (s.checked_claimsSound inp hs p).congr hstate hholder hqueue htalk

/-! ## The moves -/

theorem State.ClaimsSound.of_ports_eq {s t : State} (hs : s.ClaimsSound) (hp : t.ports = s.ports)
    (hactive : t.active = false → s.active = false) : t.ClaimsSound := fun p => by
  rw [hp]
  exact (hs p).of_active hactive

theorem PortEdit.claimSound {s : State} {p : Fin 8} {r : Port} (hedit : PortEdit s p r) {active : Bool}
    (hq : (s.ports.get p).ClaimSound active) : r.ClaimSound active := by
  have hrecipe : ∀ name recipe, ((s.ports.get p).setRecipe name recipe).ClaimSound active := fun name recipe => by
    cases name <;> exact hq.congr rfl rfl rfl rfl
  cases hedit with
  | moved target hserves hnew => exact hq.changeState hnew
  | cleared => exact Port.claimSound_clear active
  | regained name => exact hrecipe name _
  | entered name => exact hrecipe name _
  | removed name => exact hrecipe name _
  | talking on hserved =>
    exact { hq with
      idle := fun hidle => ⟨(hq.idle hidle).1, (hq.idle hidle).2.1, by
        by_contra hon
        have := hserved (by simpa using hon)
        rw [show (s.ports.get p).served = false from hidle] at this
        cases this⟩ }
  | _ => exact hq.congr rfl rfl rfl rfl

theorem RequestChange.claimsSound {s t : State} (h : RequestChange s t) (hs : s.ClaimsSound) : t.ClaimsSound := by
  cases h with
  | countsCleared =>
    intro p
    have hactive : (((s.mapLanes fun _ lane => lane.clearCounts).mapPorts fun _ port => port.clearCounts).updLink
        fun l => { l with cutCount := 0 }).active = s.active := State.active_of_station (by simp)
    rw [hactive]
    simp only [State.updLink_ports, State.mapPorts_ports, State.mapLanes_ports, tab_get]
    exact (hs p).congr rfl rfl rfl rfl
  | withdrawing hrunning => exact hs.of_ports_eq rfl (by simp [State.active])
  | closing hactive =>
    intro p
    rw [State.silence_ports, State.enterClosing_port]
    exact Port.claimSound_close _ _
  | rejoined hwithdrawn => exact hs.of_ports_eq rfl fun _ => by simp [State.active, hwithdrawn]
  | testing hwithdrawn => exact hs.of_ports_eq rfl fun _ => by simp [State.active, hwithdrawn]
  | restored g =>
    intro p
    have hactive : (s.restoreGroup g).active = s.active := State.active_of_station (by simp [State.restoreGroup])
    rw [hactive]
    simp only [State.restoreGroup, State.mapPorts_ports, tab_get]
    split
    next hmoved => exact (hs p).changeState (by rw [hmoved.2]; decide)
    · exact hs p
  | port p f hedit =>
    intro j
    have hactive : (s.updPort p f).active = s.active := rfl
    rw [hactive, State.updPort_ports, upd_get]
    split
    next hj => exact hj ▸ hedit.claimSound (hs p)
    · exact hs j
  | _ => exact hs.of_ports_eq rfl id

theorem State.enterUntimed_claimsSound {s : State} (hs : s.ClaimsSound) : s.enterUntimed.ClaimsSound := fun p => by
  rw [State.enterUntimed_port]
  exact (hs p).emptyClaims _

theorem lossPass_claimsSound {s : State} (hs : s.ClaimsSound) : (lossPass s).st.ClaimsSound := by
  unfold lossPass
  dsimp only
  split
  · exact State.enterUntimed_claimsSound hs
  · exact State.enterUntimed_claimsSound hs
  · exact State.enterUntimed_claimsSound hs
  next hst => exact hs.of_ports_eq rfl fun _ => by simp [State.active, hst]
  next hst => exact hs.of_ports_eq rfl fun _ => by simp [State.active, hst]
  all_goals exact hs

theorem Move.claimsSound {s t : State} (m : Move s t) (hs : s.ClaimsSound) : t.ClaimsSound := by
  cases m with
  | strobe inp =>
    exact State.afterStrobe_keeps (inv := State.ClaimsSound) inp (fun _ h => h.of_ports_eq rfl id)
      (fun hst h => h.of_ports_eq rfl fun _ => by simp [State.active, hst])
      (fun u hu h => State.afterStrobe_claimsSound_of_taken inp hu h) hs
  | missed =>
    unfold State.missStrobe
    dsimp only
    split
    · refine (lossPass_claimsSound (hs.of_ports_eq (t := { s with monitor :=
        { s.monitor with condition := .lost, reference := none, missed := 4 } }) rfl id)).of_ports_eq
        (State.raiseAll_ports _ _) (by rw [State.active_of_station (State.raiseAll_station _ _)]; exact id)
    · exact hs.of_ports_eq rfl id
  | note =>
    refine hs.of_ports_eq rfl ?_
    cases hst : s.station <;> simp [State.active, Station.noteStart, hst]
  | request code args => exact (decideRequest_change code args s).claimsSound hs
  | hold cause =>
    obtain ⟨resets, h | h⟩ := s.holdReset_cases cause
    · rw [h]; exact hs.of_ports_eq rfl id
    · have hactive : ({ s.beginReset with resets := resets } : State).active = s.active :=
        State.active_of_station s.beginReset_station
      rw [h]
      exact hs.of_ports_eq s.beginReset_ports fun ha => hactive.symm.trans ha
  | release cause fin =>
    rcases s.releaseReset_cases cause fin with ⟨resets, h⟩ | h
    · rw [h]
      exact hs.of_ports_eq rfl id
    · rw [h]
      exact fun p => .of_empty _ (by simp [resetEnded, State.reset, Port.reset])
        (by simp [resetEnded, State.reset, Port.reset]) (by simp [resetEnded, State.reset, Port.reset])
  | sample _ adin h =>
    unfold execSampleFrame at h
    split_ifs at h <;> cases h <;> exact hs.of_ports_eq rfl id
  | _ => exact hs.of_ports_eq rfl id

/-- Settles O57: the claims that a move can add are new wants and the holder who waits again, and every entry to a
state without claims empties them. -/
theorem stepsKeepTheClaimsSound : Obligations.StepsKeepTheClaimsSound :=
  step_keeps State.ClaimsSound (fun _ _ hs => hs.of_ports_eq rfl id) fun _ _ m => m.claimsSound

end Sys2Proof.Machine
end

section
/-! Every step keeps the four mixes sound (R70, R71): the mix requests edit them within their bounds, and a strobe
writes claim statuses and the counts of the last block alone. -/

namespace Sys2Proof.Machine

/-! ## The mixes at a strobe -/

theorem State.statused_mix (s : State) (inp : StrobeInput) (m : Fin 4) :
    (s.statused inp).mixes.get m =
      { (s.checked inp).mixes.get m with
        terms := ((s.checked inp).mixes.get m).terms.map ((s.measured inp).decided (s.mixTag m)) } := by
  have htag : (s.measured inp).mixTag m = s.mixTag m := by
    simp only [State.mixTag, State.own, State.measured_stationNumber]
  simp only [State.statused, statusPass, State.mapMixes_mixes, tab_get, State.measured_mixes, htag]

/-- What composition makes of a mix: its last included count and clip flag, if a block of it is composed (R78). -/
theorem State.composed_mix (s : State) (inp : StrobeInput) (m : Fin 4) :
    (s.composed inp).mixes.get m =
      if (s.cadenced inp).active ∧ ((s.statused inp).mixes.get m).live then
        { (s.statused inp).mixes.get m with
          lastIncluded := ((s.cadenced inp).included m).length
          lastClip := (mixRecord m ((s.cadenced inp).included m)).clip }
      else (s.statused inp).mixes.get m := by
  unfold State.composed composePass
  by_cases hactive : (s.cadenced inp).active = true
  · simp only [hactive, if_true, true_and, Work.silent_st, State.mapMixes_mixes, tab_get, State.cadenced_mixes]
  · simp only [hactive, Bool.false_eq_true, if_false, false_and, Work.silent_st, State.cadenced_mixes]

theorem State.included_length_le (s : State) (m : Fin 4) :
    (s.included m).length ≤ (s.mixes.get m).terms.length := List.length_filterMap_le ..

/-! ## The edits of a mix -/

theorem Mix.names_eq_true_iff (x : Mix) (tag : Tag) : x.names tag = true ↔ tag ∈ x.terms.map (·.tag) := by
  simp [Mix.names]

theorem Mix.Sound.reset : Mix.reset.Sound := by
  constructor <;> simp [Mix.reset, Mix.partyTerms]

/-- Claim statuses given anew to the terms that have one keep a mix sound. -/
theorem Mix.Sound.map_terms {x : Mix} (hx : x.Sound) {f : Term → Term} (htag : ∀ t, (f t).tag = t.tag)
    (hcoefficient : ∀ t ∈ x.terms, (f t).coefficient ≤ 32768) (hstatus : ∀ t, (f t).status.isSome = t.status.isSome) :
    { x with terms := x.terms.map f }.Sound where
  terms := by simpa using hx.terms
  parties := by
    have : (fun t : Term => t.tag.kind == .party) ∘ f = fun t => t.tag.kind == .party := by
      funext t; simp [htag]
    simpa [Mix.partyTerms, List.filter_map, this] using hx.parties
  once := by simpa [List.map_map, Function.comp_def, htag] using hx.once
  sources := by simpa [htag] using hx.sources
  coefficients := by simpa using hcoefficient
  statuses := by simpa [htag, hstatus] using hx.statuses
  included := hx.included

/-- Some of a sound mix's terms, in their order, are a sound mix. -/
theorem Mix.Sound.filter_terms {x : Mix} (hx : x.Sound) (keep : Term → Bool) :
    { x with terms := x.terms.filter keep }.Sound where
  terms := (List.length_filter_le ..).trans hx.terms
  parties := (List.Sublist.filter _ List.filter_sublist).length_le.trans hx.parties
  once := (List.Sublist.map _ List.filter_sublist).nodup hx.once
  sources := fun t ht => hx.sources t (List.mem_of_mem_filter ht)
  coefficients := fun t ht => hx.coefficients t (List.mem_of_mem_filter ht)
  statuses := fun t ht => hx.statuses t (List.mem_of_mem_filter ht)
  included := hx.included

theorem Mix.Sound.counted {x : Mix} (hx : x.Sound) {live clip : Bool} {included : Nat} (hincluded : included ≤ 48) :
    { x with live := live, lastIncluded := included, lastClip := clip }.Sound :=
  ⟨hx.terms, hx.parties, hx.once, hx.sources, hx.coefficients, hx.statuses, hincluded⟩

/-- A new term keeps a mix sound while there is room for it. -/
theorem Mix.Sound.append {x : Mix} (hx : x.Sound) {tag : Tag} {c : Nat} (hc : c ≤ 32768) (hkind : tag.kind ≠ .mix)
    (hnew : x.names tag = false) (hroom : x.terms.length < 48) (hparties : tag.kind = .party → x.partyTerms < 16) :
    { x with terms := x.terms ++ [newTerm tag c] }.Sound where
  terms := by simpa using hroom
  parties := by
    by_cases hparty : tag.kind = .party
    · simpa [Mix.partyTerms, List.filter_append, newTerm, hparty] using hparties hparty
    · simpa [Mix.partyTerms, List.filter_append, newTerm, hparty] using hx.parties
  once := by
    have hmem : tag ∉ x.terms.map (·.tag) := fun h => by simp [(x.names_eq_true_iff tag).mpr h] at hnew
    rw [List.map_append, List.nodup_append]
    refine ⟨hx.once, by simp, fun a ha b hb => ?_⟩
    obtain rfl : b = tag := by simpa [newTerm] using hb
    exact fun h => hmem (h ▸ ha)
  sources := List.forall_mem_append.mpr ⟨hx.sources, by simpa [newTerm] using hkind⟩
  coefficients := List.forall_mem_append.mpr ⟨hx.coefficients, by simpa [newTerm] using hc⟩
  statuses := List.forall_mem_append.mpr
    ⟨hx.statuses, by by_cases hparty : tag.kind = .party <;> simp [newTerm, hparty]⟩
  included := hx.included

theorem MixEdit.sound {x y : Mix} (hedit : MixEdit x y) (hx : x.Sound) : y.Sound := by
  cases hedit with
  | coefficient tag c hc =>
    refine hx.map_terms (fun t => ?_) (fun t ht => ?_) fun t => ?_
    · split <;> rfl
    · split
      · exact hc
      · exact hx.coefficients t ht
    · split <;> rfl
  | added tag c hc hkind hnew hroom hparties => exact hx.append hc hkind hnew hroom hparties
  | removed tag => exact hx.filter_terms _
  | emptied => simpa using hx.filter_terms fun _ => false
  | switched live => exact hx.counted hx.included

/-! ## Every move -/

theorem State.MixesSound.of_mixes_eq {s t : State} (hs : s.MixesSound) (hm : t.mixes = s.mixes) : t.MixesSound := by
  unfold State.MixesSound
  rw [hm]
  exact hs

theorem State.MixesSound.enterClosing {s : State} (hs : s.MixesSound) (cause : ClosingCause) :
    (s.enterClosing cause).MixesSound := fun m => by
  rw [State.enterClosing_mix]
  exact (hs m).counted (hs m).included

theorem RequestChange.mixesSound {s t : State} (hchange : RequestChange s t) (hs : s.MixesSound) : t.MixesSound := by
  cases hchange with
  | countsCleared => exact hs.of_mixes_eq (by simp)
  | restored g => exact hs.of_mixes_eq (by simp [State.restoreGroup])
  | closing _ => exact (hs.enterClosing .forced).of_mixes_eq (State.silence_mixes _)
  | mix m f hedit =>
    intro n
    rw [State.updMix_mixes, upd_get]
    split
    next h => exact h ▸ hedit.sound (hs m)
    · exact hs n
  | _ => exact hs.of_mixes_eq rfl

theorem State.checked_mixesSound {s : State} (inp : StrobeInput) (hs : s.MixesSound) : (s.checked inp).MixesSound := by
  intro m
  rw [State.checked_mix]
  split
  · exact (hs m).counted (hs m).included
  · exact hs m

theorem State.statused_mixesSound {s : State} (inp : StrobeInput) (hs : s.MixesSound) :
    (s.statused inp).MixesSound := by
  intro m
  have hx := s.checked_mixesSound inp hs m
  rw [State.statused_mix]
  exact hx.map_terms (fun _ => rfl) hx.coefficients fun t => by simp [State.decided]

theorem State.afterStrobe_mixesSound (s : State) (inp : StrobeInput) (h : s.takesStrobes) (hs : s.MixesSound) :
    (s.afterStrobe inp).MixesSound := by
  intro m
  have hx := s.statused_mixesSound inp hs m
  rw [s.afterStrobe_mixes inp h, State.composed_mix]
  split
  · refine hx.counted (((s.cadenced inp).included_length_le m).trans ?_)
    rw [State.cadenced_mixes]
    exact hx.terms
  · exact hx

theorem lossPass_mixes (s : State) : (lossPass s).st.mixes = s.mixes := by
  unfold lossPass
  dsimp only
  split <;> simp [State.enterUntimed, State.emptyAllClaims]

theorem State.beginReset_mixes (s : State) : s.beginReset.mixes = s.mixes := by simp [State.beginReset]

theorem Move.mixesSound {s t : State} (m : Move s t) (hs : s.MixesSound) : t.MixesSound := by
  cases m with
  | strobe inp =>
    exact State.afterStrobe_keeps (inv := State.MixesSound) inp (fun _ h => h.of_mixes_eq rfl)
      (fun _ h => h.of_mixes_eq rfl) (fun u hu h => u.afterStrobe_mixesSound inp hu h) hs
  | missed =>
    unfold State.missStrobe
    dsimp only
    split
    · exact hs.of_mixes_eq ((State.raiseAll_mixes _ _).trans (lossPass_mixes _))
    · exact hs.of_mixes_eq rfl
  | request code args => exact (decideRequest_change code args s).mixesSound hs
  | hold cause =>
    obtain ⟨resets, h | h⟩ := s.holdReset_cases cause
    · rw [h]; exact hs.of_mixes_eq rfl
    · rw [h]; exact hs.of_mixes_eq s.beginReset_mixes
  | release cause fin =>
    rcases s.releaseReset_cases cause fin with ⟨resets, h⟩ | h
    · rw [h]; exact hs.of_mixes_eq rfl
    · rw [h]
      intro m
      have hreset : (resetEnded s cause fin).mixes.get m = Mix.reset := by simp [resetEnded, State.reset]
      exact hreset ▸ Mix.Sound.reset
  | sample _ adin h =>
    unfold execSampleFrame at h
    split_ifs at h <;> cases h <;> exact hs.of_mixes_eq rfl
  | _ => exact hs.of_mixes_eq rfl

end Sys2Proof.Machine
end

section
/-! The counts, queues and records of the part (R2, R6, R10, R16, R19, R113, R114, R141, R169): what a strobe makes of
the history, of the station state and of LOUT. -/

namespace Sys2Proof.Machine

/-! ## The outbound history (R113, R114) -/

theorem consecutive_iff_isChain (h : List HistoryRecord) :
    consecutive h ↔ h.IsChain fun a b => b.sequence = a.sequence + 1 := by
  fun_induction consecutive h with
  | case1 a b rest ih => simp [ih]
  | case2 h hne =>
    match h, hne with
    | [], _ => simp
    | [_], _ => simp
    | a :: b :: rest, hne => exact absurd rfl (hne a b rest)

theorem placeRecord_length_le {h : List HistoryRecord} (hlen : h.length ≤ 8) (new : HistoryRecord) :
    (placeRecord h new).length ≤ 8 := by
  unfold placeRecord
  dsimp only
  split
  · simp
  · split
    · simp only [List.length_drop, List.length_append, List.length_singleton]
      omega
    · simp

theorem placeRecord_consecutive {h : List HistoryRecord} (hchain : consecutive h) (new : HistoryRecord) :
    consecutive (placeRecord h new) := by
  rw [consecutive_iff_isChain] at hchain ⊢
  unfold placeRecord
  dsimp only
  split
  · simp
  next newest hlast =>
    split
    next hnext =>
      exact (hchain.append (by simp) fun x hx y hy => by
        rw [hlast] at hx
        simp only [List.head?_cons, Option.mem_def, Option.some.injEq] at hx hy
        rw [← hy, ← hx, hnext]).drop _
    · simp

theorem mem_placeRecord {h : List HistoryRecord} {new r : HistoryRecord} (hr : r ∈ placeRecord h new) :
    r ∈ h ∨ r = new := by
  unfold placeRecord at hr
  dsimp only at hr
  split at hr
  · exact .inr (by simpa using hr)
  · split at hr
    · simpa using List.mem_of_mem_drop hr
    · exact .inr (by simpa using hr)

theorem State.mem_shown (s : State) (c : Fin 16) :
    c ∈ s.shown ↔ match kindOfChannel c with
      | .party => (s.ports.get ⟨c.val % 8, by omega⟩).served = true
      | .feed => True
      | .mix => (s.mixes.get ⟨c.val % 4, by omega⟩).live = true := by
  unfold State.shown
  cases h : kindOfChannel c <;> simp [h]

/-- The channels of a record are the own PARTY and FEED channels shown (R113). -/
theorem State.mem_recorded (s : State) (c : Fin 16) (b : Block) :
    (c, b) ∈ s.recorded ↔ c ∈ s.shown ∧ ∃ h : c.val < 12, b = s.capture.get ⟨c.val, h⟩ := by
  simp only [State.recorded, List.mem_filterMap]
  constructor
  · rintro ⟨a, ha, hsome⟩
    split_ifs at hsome with hlt
    obtain ⟨rfl, rfl⟩ := Prod.mk.inj (Option.some.inj hsome)
    exact ⟨ha, hlt, rfl⟩
  · rintro ⟨hc, hlt, rfl⟩
    exact ⟨c, hc, by rw [dif_pos hlt]⟩

theorem State.feed_mem_recorded (s : State) (c : Fin 16) (hfeed : kindOfChannel c = .feed) :
    c ∈ s.recorded.map (·.1) := by
  have hlt : c.val < 12 := by have := (kindOfChannel_eq_feed_iff c).mp hfeed; omega
  exact List.mem_map.mpr ⟨_, (s.mem_recorded c _).mpr ⟨(s.mem_shown c).mpr (by rw [hfeed]; trivial), hlt, rfl⟩, rfl⟩

theorem State.recorded_kind (s : State) (c : Fin 16) (hc : c ∈ s.recorded.map (·.1)) : kindOfChannel c ≠ .mix := by
  obtain ⟨⟨c', b⟩, hmem, rfl⟩ := List.mem_map.mp hc
  obtain ⟨-, hlt, -⟩ := (s.mem_recorded _ _).mp hmem
  rw [Ne, kindOfChannel_eq_mix_iff]
  exact Nat.not_le.mpr hlt

/-- The history after a taken strobe: as it was, or with the record of the strobe's frame placed (R113, R114). -/
theorem State.transmitted_history (s : State) (inp : StrobeInput) :
    (s.transmitted inp).history =
      if (s.judged inp).active then
        placeRecord s.history { sequence := s.sequence, channels := (s.judged inp).recorded }
      else s.history := by
  have hafter : (s.judged inp).historyAfter =
      if (s.judged inp).active then
        placeRecord s.history { sequence := s.sequence, channels := (s.judged inp).recorded }
      else s.history := by
    simp only [State.historyAfter, State.judged_history, State.judged_sequence]
  unfold State.transmitted
  cases h : (s.judged inp).frameContent with
  | some content => rw [transmitPass_of_frame h]; exact hafter
  | none =>
    have hactive : (s.judged inp).active = false := by
      have := (State.frameContent_eq_none_iff _).mp h
      unfold sendsNothing at this
      unfold State.active
      cases hst : (s.judged inp).station <;> simp_all
    rw [transmitPass_of_none h, hactive]
    simp

/-! ## The station state (R19, R141, R153) -/

/-- The station state as the transmitter finds it at a strobe: CLOSING is not over and every TEST frame sent has been
judged. -/
def stationReady (st : Station) : Prop :=
  match st with
  | .closing _ finals => finals < 8
  | .withdrawn (some test) => test.judged ≤ 3 ∧ test.sent = test.judged ∧ test.missing + test.differing ≤ test.judged
  | other => stationSound other

theorem stationSound_noteStart {st : Station} (h : stationSound st) : stationSound st.noteStart := by
  cases st with
  | starting quiet heard => cases quiet <;> exact h
  | _ => exact h

theorem stationSound_listened {st : Station} (h : stationSound st) : stationSound st.listened := by
  cases st with
  | starting quiet heard =>
    cases quiet with
    | none => simp [Station.listened, stationSound]
    | some quiet =>
      cases heard with
      | true => trivial
      | false =>
        simp only [Station.listened]
        split
        · trivial
        · simp only [stationSound]; omega
  | _ => exact h

/-- After the end of CLOSING is looked at, its FINAL count is below 8. -/
theorem stationSound_closedOut {st : Station} (h : stationSound st) :
    stationSound st.closedOut ∧ ∀ cause finals, st.closedOut = .closing cause finals → finals < 8 := by
  cases st with
  | closing cause finals =>
    simp only [Station.closedOut]
    split
    next hlt => exact ⟨h, fun _ _ heq => by cases heq; exact hlt⟩
    · exact ⟨trivial, fun _ _ heq => nomatch heq⟩
  | _ => exact ⟨h, fun _ _ heq => nomatch heq⟩

theorem withdrawalPass_stationSound {s : State} (h : stationSound s.station)
    (hfinals : ∀ cause finals, s.station = .closing cause finals → finals < 8) :
    stationSound (withdrawalPass s).st.station
      ∧ ∀ cause finals, (withdrawalPass s).st.station = .closing cause finals → finals < 8 := by
  by_cases hw : ∃ timer, s.station = .withdrawing timer
  · obtain ⟨timer, hst⟩ := hw
    by_cases hfree : s.heldPorts = 0
    · rw [withdrawalPass_of_free hst hfree, Work.silent_st, State.enterClosing_station]
      exact ⟨Nat.zero_le 8, fun _ _ heq => by cases heq; decide⟩
    · rcases Nat.lt_or_ge (timer + 1) 30000 with ht | ht
      · rw [withdrawalPass_of_held hst hfree ht, Work.silent_st, State.withStation_station]
        exact ⟨Nat.le_of_lt_succ ht, fun _ _ heq => nomatch heq⟩
      · rw [withdrawalPass_of_denied hst hfree ht, State.withStation_station]
        exact ⟨trivial, fun _ _ heq => nomatch heq⟩
  · rw [withdrawalPass_of_other fun timer hst => hw ⟨timer, hst⟩]
    exact ⟨h, hfinals⟩

theorem LaneTest.judge_judged (test : LaneTest) (v : TestVerdict) : (test.judge v).judged = test.judged + 1 := by
  cases v <;> rfl

theorem LaneTest.judge_sent (test : LaneTest) (v : TestVerdict) : (test.judge v).sent = test.sent := by
  cases v <;> rfl

theorem LaneTest.judge_faults_le (test : LaneTest) (v : TestVerdict) :
    (test.judge v).missing + (test.judge v).differing ≤ test.missing + test.differing + 1 := by
  cases v <;> simp only [LaneTest.judge] <;> omega

theorem testPass_stationReady {s : State} (h : stationSound s.station)
    (hfinals : ∀ cause finals, s.station = .closing cause finals → finals < 8) :
    stationReady (testPass s).st.station := by
  rcases testPass_cases s with ⟨test, -, -, -, hp⟩ | ⟨test, hst, hlt, hfew, hp⟩ | ⟨hdone, hp⟩
  · rw [hp]; trivial
  · have hfaults := test.judge_faults_le (testVerdict s.sent (s.lanes.get s.stationNumber).frame)
    rw [hp, Work.silent_st, State.withStation_station]
    rw [hst] at h
    obtain ⟨-, -, -, hnext, hcount⟩ := h
    simp only [LaneTest.judge_judged] at hfew
    simp only [stationReady, LaneTest.judge_judged, LaneTest.judge_sent]
    omega
  · rw [hp, Work.silent_st]
    cases hst : s.station with
    | closing cause finals => exact hfinals cause finals hst
    | withdrawn test =>
      cases test with
      | none => trivial
      | some test =>
        have := hdone test hst
        rw [hst] at h
        obtain ⟨-, hjudged, hle, -, hcount⟩ := h
        exact ⟨hjudged, by omega, hcount⟩
    | _ => rw [hst] at h; exact h

theorem stationSound_afterSending {st : Station} (h : stationReady st) : stationSound st.afterSending := by
  cases st with
  | closing cause finals => exact h
  | withdrawn test =>
    cases test with
    | none => trivial
    | some test =>
      obtain ⟨hjudged, hsent, hcount⟩ := h
      simp only [Station.afterSending, stationSound]
      omega
  | _ => exact h

/-- The station state at a taken strobe stays in its ranges. -/
theorem State.transmitted_stationSound {s : State} (inp : StrobeInput) (h : stationSound s.station) :
    stationSound (s.transmitted inp).station := by
  have hechoed : stationSound (s.echoed inp).station := by
    rw [State.echoed_station]
    split
    · trivial
    · exact h
  have hlistened : stationSound (s.listened inp).station := s.listened_station inp ▸ stationSound_listened hechoed
  obtain ⟨hclosed, hfinals⟩ := stationSound_closedOut hlistened
  rw [← State.closed_station, ← State.claimed_station] at hclosed hfinals
  obtain ⟨hchecked, hfinals⟩ := withdrawalPass_stationSound hclosed hfinals
  have hready : stationReady (s.judged inp).station :=
    testPass_stationReady (by rw [State.composed_station]; exact hchecked)
      (by rw [State.composed_station]; exact hfinals)
  rw [State.transmitted_station]
  exact stationSound_afterSending hready

theorem State.checked_station_of_other {s : State} {inp : StrobeInput}
    (h : ∀ timer, (s.closed inp).station ≠ .withdrawing timer) : (s.checked inp).station = (s.closed inp).station := by
  rw [State.checked, withdrawalPass_of_other (by rwa [State.claimed_station]), Work.silent_st, State.claimed_station]

theorem State.judged_station_of_other {s : State} {inp : StrobeInput}
    (h : ∀ test, (s.checked inp).station ≠ .withdrawn (some test)) : (s.judged inp).station =
      (s.checked inp).station := by
  rw [← State.composed_station] at h ⊢
  rcases testPass_cases (s.composed inp) with ⟨test, hst, _⟩ | ⟨test, hst, _⟩ | ⟨_, hp⟩
  · exact absurd hst (h test)
  · exact absurd hst (h test)
  · rw [State.judged, hp, Work.silent_st]

/-- A strobe leaves CONFLICT alone (R20). -/
theorem State.transmitted_station_of_conflict {s : State} (inp : StrobeInput) (h : (s.echoed inp).station = .conflict) :
    (s.transmitted inp).station = .conflict := by
  have hclosed : (s.closed inp).station = .conflict := by
    rw [State.closed_station, State.listened_station, h]; rfl
  have hchecked : (s.checked inp).station = .conflict := by
    rw [State.checked_station_of_other (by rw [hclosed]; nofun), hclosed]
  rw [State.transmitted_station, State.judged_station_of_other (by rw [hchecked]; nofun), hchecked]
  rfl

/-! ## LOUT (R6) -/

/-- LOUT is released where the station state sends nothing. -/
def State.quietLout (s : State) : Prop := sendsNothing s.station = true → s.lout = .released

theorem sendsNothing_noteStart (st : Station) : sendsNothing st.noteStart = sendsNothing st := by cases st <;> rfl

theorem sendsNothing_of_listened {st : Station} (h : sendsNothing st.listened = true) : sendsNothing st = true := by
  cases st with
  | starting quiet heard => rfl
  | _ => exact h

theorem State.closed_quietLout {s : State} (inp : StrobeInput) (h : s.quietLout) : (s.closed inp).quietLout := by
  have hechoed : (s.echoed inp).quietLout := by
    unfold State.quietLout
    rw [State.echoed_station, State.echoed_lout]
    split
    · exact fun _ => rfl
    · exact h
  have hlistened : (s.listened inp).quietLout := by
    unfold State.quietLout
    rw [State.listened_station, State.listened_lout]
    split
    · exact fun _ => rfl
    · exact fun hn => hechoed (sendsNothing_of_listened hn)
  unfold State.quietLout State.closed
  rcases closedPass_cases (s.listened inp) with ⟨_, _, hp⟩ | ⟨_, _, _, _, _, _, hp⟩
  · rw [hp]; exact hlistened
  · rw [hp]; exact fun _ => rfl

/-- The withdrawal check leads to no state that sends nothing. -/
theorem withdrawalPass_sendsNothing {s : State} (h : sendsNothing (withdrawalPass s).st.station = true) :
    sendsNothing s.station = true := by
  by_cases hw : ∃ timer, s.station = .withdrawing timer
  · obtain ⟨timer, hst⟩ := hw
    by_cases hfree : s.heldPorts = 0
    · rw [withdrawalPass_of_free hst hfree] at h
      exact absurd h (by simp [sendsNothing])
    · rcases Nat.lt_or_ge (timer + 1) 30000 with ht | ht
      · rw [withdrawalPass_of_held hst hfree ht] at h
        exact absurd h (by simp [sendsNothing])
      · rw [withdrawalPass_of_denied hst hfree ht] at h
        exact absurd h (by simp [sendsNothing])
  · rwa [withdrawalPass_of_other fun timer hst => hw ⟨timer, hst⟩] at h

theorem State.transmitted_quietLout {s : State} (inp : StrobeInput) (h : s.quietLout) :
    (s.transmitted inp).quietLout := by
  have hcomposed : (s.composed inp).quietLout := by
    unfold State.quietLout
    rw [State.composed_station, State.composed_lout]
    intro hn
    have hclaimed := withdrawalPass_sendsNothing (s := s.claimed inp) hn
    rw [State.claimed_station] at hclaimed
    exact s.closed_quietLout inp h hclaimed
  have hjudged : (s.judged inp).quietLout := by
    unfold State.quietLout State.judged
    rcases testPass_cases (s.composed inp) with ⟨_, _, _, _, hp⟩ | ⟨_, _, _, _, hp⟩ | ⟨_, hp⟩
    · rw [hp]; exact fun _ => rfl
    · rw [hp]; exact fun hn => absurd hn (by simp [sendsNothing])
    · rw [hp]; exact hcomposed
  unfold State.quietLout State.transmitted
  cases hcontent : (s.judged inp).frameContent with
  | none => rw [transmitPass_of_none hcontent]; exact hjudged
  | some content =>
    intro hn
    have hsends : sendsNothing (s.judged inp).station = false := by
      rw [← Bool.not_eq_true, ← State.frameContent_eq_none_iff, hcontent]
      simp
    rw [transmitPass_of_frame hcontent] at hn
    refine absurd hn ?_
    rw [Bool.not_eq_true]
    revert hsends
    unfold sendsNothing Station.afterSending
    cases (s.judged inp).station with
    | withdrawn test => cases test <;> simp
    | _ => simp

end Sys2Proof.Machine
end

section
/-! Every step keeps the counts, queues and records in their ranges, and LOUT released where nothing is sent. -/

namespace Sys2Proof.Machine

theorem addCount_le_max (count more : Nat) : addCount count more ≤ 65535 := min_le_left ..

/-! ## The event queue and the monitor -/

/-- Raising events keeps the queue within its 32 places, and full where its mark is set (R168, R169). -/
theorem State.raiseAll_booksSound {s : State} (hs : s.BooksSound) (cs : List (List Event)) :
    (s.raiseAll cs).BooksSound := by
  obtain ⟨hevents, hoverflow⟩ := s.raiseAll_queues cs
  have hlen := congrArg List.length hevents
  simp only [List.length_append, List.length_take, List.length_map] at hlen
  have hroom := hs.events
  obtain ⟨events, overflow, hshape⟩ := s.raiseAll_shape cs
  have hbound : (s.raiseAll cs).events.length ≤ 32 := by omega
  have hfull : (s.raiseAll cs).overflow = true → (s.raiseAll cs).events.length = 32 := by
    rw [hoverflow]
    rintro (ho | ho)
    · have := hs.overflow ho
      omega
    · omega
  rw [hshape] at hbound hfull ⊢
  exact { hs with events := hbound, overflow := hfull }

theorem Monitor.strobe_missed (m : Monitor) (instant : Nat) : (m.strobe instant).missed = 0 := by
  unfold Monitor.strobe
  split
  · rfl
  · dsimp only; split <;> rfl

theorem Monitor.strobe_goodRun_le {m : Monitor} (h : m.goodRun ≤ 4) (instant : Nat) :
    (m.strobe instant).goodRun ≤ 4 := by
  unfold Monitor.strobe
  split
  · exact h
  · dsimp only; split
    · exact le_rfl
    next hfew => exact Nat.le_of_not_le hfew

theorem Monitor.strobe_goodRun_of_lost {m : Monitor} {instant : Nat} (h : (m.strobe instant).condition = .lost) :
    (m.strobe instant).goodRun ≤ 3 := by
  unfold Monitor.strobe at h ⊢
  split at h
  next htimed => exact absurd (htimed.symm.trans h) (by decide)
  · dsimp only at h ⊢
    split at h
    · nomatch h
    next hfew => rw [if_neg hfew]; exact Nat.le_of_lt_succ (Nat.lt_of_not_le hfew)

/-- The monitor's part of the books. -/
structure Monitor.Sound (m : Monitor) : Prop where
  missed : m.missed ≤ 4
  timed : m.condition = .timed → m.missed ≤ 3
  goodRun : m.goodRun ≤ 4
  running : m.condition = .lost → m.reference ≠ none → m.goodRun ≤ 3

theorem Monitor.Sound.strobe {m : Monitor} (h : m.goodRun ≤ 4) (instant : Nat) : (m.strobe instant).Sound where
  missed := by simp [Monitor.strobe_missed]
  timed := by simp [Monitor.strobe_missed]
  goodRun := Monitor.strobe_goodRun_le h instant
  running := fun hlost _ => Monitor.strobe_goodRun_of_lost hlost

theorem State.BooksSound.withMonitor {s : State} (hs : s.BooksSound) {m : Monitor} (hm : m.Sound) :
    { s with monitor := m }.BooksSound :=
  { hs with missed := hm.missed, timed := hm.timed, goodRun := hm.goodRun, running := hm.running }

/-! ## The taken strobe -/

theorem laneAfter_countsSound {lane : Lane} (h : lane.countsSound) (frame : BlockFrame) :
    (laneAfter lane frame).countsSound := by
  obtain ⟨hgood, hcheck, hstation, hslips, htest⟩ := h
  cases frame with
  | valid f => exact ⟨hgood, hcheck, hstation, addCount_le_max .., htest⟩
  | invalid => exact ⟨hgood, hcheck, hstation, hslips, htest⟩
  | missing => exact ⟨hgood, hcheck, hstation, hslips, htest⟩

theorem State.echoed_echoMismatch_le {s : State} (hs : s.BooksSound) (inp : StrobeInput) :
    (s.echoed inp).echoMismatch ≤ 3
      ∧ ((s.echoed inp).echoMismatch = 3 → (s.echoed inp).station = .conflict) := by
  have hbound := hs.echoes
  rw [State.echoed_echoMismatch, State.echoed_station]
  cases hv : s.verdict with
  | notJudged =>
    rw [State.conflicts_eq_false (by simp [hv])]
    exact ⟨hbound, hs.conflict⟩
  | matched => exact ⟨Nat.zero_le 3, nofun⟩
  | mismatched =>
    have hne : s.echoMismatch ≠ 3 := fun h => by
      have hst := hs.conflict h
      rcases State.verdict_judges (s := s) (by rw [hv]; nofun) with ha | ⟨cause, finals, hc, _⟩
      · simp [State.active, hst] at ha
      · rw [hst] at hc; cases hc
    refine ⟨by dsimp only; omega, fun h => ?_⟩
    dsimp only at h
    rw [s.conflicts_eq_true_iff.mpr ⟨hv, by omega⟩]
    rfl

theorem State.transmitted_booksSound {s : State} (inp : StrobeInput) (hs : s.BooksSound) :
    (closeBlock (s.transmitted inp)).st.BooksSound := by
  obtain ⟨hechoes, hconflict⟩ := s.echoed_echoMismatch_le hs inp
  have hmonitor := Monitor.Sound.strobe hs.goodRun inp.instant
  have hstation : (closeBlock (s.transmitted inp)).st.station = (s.transmitted inp).station := closeBlock_station _
  have hhistory : (closeBlock (s.transmitted inp)).st.history = (s.transmitted inp).history := closeBlock_history _
  have hmon : (closeBlock (s.transmitted inp)).st.monitor = s.monitor.strobe inp.instant := by
    rw [closeBlock_monitor, State.transmitted_monitor]; rfl
  have hmem : ∀ r ∈ (s.transmitted inp).history,
      r ∈ s.history ∨ r = { sequence := s.sequence, channels := (s.judged inp).recorded } := by
    rw [State.transmitted_history]
    split
    · exact fun r => mem_placeRecord
    · exact fun r => .inl
  constructor
  case events => rw [closeBlock_events, State.transmitted_events]; exact hs.events
  case overflow =>
    rw [closeBlock_events, closeBlock_overflow, State.transmitted_events, State.transmitted_overflow]
    exact hs.overflow
  case history =>
    rw [hhistory, State.transmitted_history]
    split
    · exact placeRecord_length_le hs.history _
    · exact hs.history
  case sequences =>
    rw [hhistory, State.transmitted_history]
    split
    · exact placeRecord_consecutive hs.sequences _
    · exact hs.sequences
  case feeds =>
    rw [hhistory]
    intro r hr c hc
    rcases hmem r hr with hr | rfl
    · exact hs.feeds r hr c hc
    · exact (s.judged inp).feed_mem_recorded c hc
  case channels =>
    rw [hhistory]
    intro r hr
    rcases hmem r hr with hr | rfl
    · exact hs.channels r hr
    · exact (s.judged inp).recorded_kind
  case position => exact Nat.zero_le 16
  case lanes =>
    intro l
    have hlane : (closeBlock (s.transmitted inp)).st.lanes.get l
        = { laneAfter (s.lanes.get l) (s.blockFrame s.verdict l) with frame := none } := by
      simp only [closeBlock, Work.silent_st, State.mapLanes, tab_get, State.transmitted_lanes, State.laned, lanePass,
        State.closed_lanes, State.blockFrames]
    rw [hlane]
    exact laneAfter_countsSound (hs.lanes l) _
  case cuts => rw [closeBlock_link, State.transmitted_link]; exact hs.cuts
  case echoes => rw [closeBlock_echoMismatch, State.transmitted_echoMismatch]; exact hechoes
  case conflict =>
    rw [closeBlock_echoMismatch, State.transmitted_echoMismatch, hstation]
    exact fun h => State.transmitted_station_of_conflict inp (hconflict h)
  case station => rw [hstation]; exact State.transmitted_stationSound inp hs.station
  case missed => rw [hmon]; exact hmonitor.missed
  case timed => rw [hmon]; exact hmonitor.timed
  case goodRun => rw [hmon]; exact hmonitor.goodRun
  case running => rw [hmon]; exact hmonitor.running
  case lout =>
    rw [hstation, closeBlock_lout]
    exact State.transmitted_quietLout inp hs.lout

theorem State.afterStrobe_booksSound (s : State) (inp : StrobeInput) (h : s.takesStrobes) (hs : s.BooksSound) :
    (s.afterStrobe inp).BooksSound := by
  rw [s.afterStrobe_taken inp h]
  exact State.raiseAll_booksSound (State.transmitted_booksSound inp hs) _

/-! ## Strobe loss (R21, R148, R154) -/

/-- The entry to UNTIMED writes neither the queue of events, the link, the counts nor the monitor (R21). -/
theorem State.enterUntimed_books (s : State) :
    ∃ t : State, t.events = s.events ∧ t.overflow = s.overflow ∧ t.position = s.position ∧ t.link = s.link
      ∧ t.echoMismatch = s.echoMismatch ∧ t.monitor = s.monitor
      ∧ (∀ l, t.lanes.get l =
          { s.lanes.get l with frame := none, receive := .absent, finalMark := false, withdrawing := false })
      ∧ s.enterUntimed = { t with station := .untimed, lout := .released, history := [] } :=
  ⟨s.enterUntimed, by simp [State.enterUntimed, State.emptyAllClaims]⟩

theorem State.BooksSound.enterUntimed {s : State} (hs : s.BooksSound) (hfew : s.echoMismatch ≠ 3) :
    s.enterUntimed.BooksSound := by
  obtain ⟨t, hevents, hoverflow, hposition, hlink, hechoes, hmonitor, hlanes, ht⟩ := s.enterUntimed_books
  rw [ht]
  exact
    { events := by rw [hevents]; exact hs.events
      overflow := by rw [hevents, hoverflow]; exact hs.overflow
      history := Nat.zero_le 8
      sequences := trivial
      feeds := nofun
      channels := nofun
      position := by rw [hposition]; exact hs.position
      lanes := fun l => by rw [hlanes]; exact hs.lanes l
      cuts := by rw [hlink]; exact hs.cuts
      echoes := by rw [hechoes]; exact hs.echoes
      conflict := fun h => absurd (hechoes.symm.trans h) hfew
      station := trivial
      missed := by rw [hmonitor]; exact hs.missed
      timed := by rw [hmonitor]; exact hs.timed
      goodRun := by rw [hmonitor]; exact hs.goodRun
      running := by rw [hmonitor]; exact hs.running
      lout := fun _ => rfl }

theorem State.BooksSound.withdrawn {s : State} (hs : s.BooksSound) (hfew : s.echoMismatch ≠ 3) :
    { s.withStation (.withdrawn none) with lout := .released }.BooksSound :=
  { hs with conflict := fun h => absurd h hfew, station := trivial, lout := fun _ => rfl }

theorem lossPass_booksSound {s : State} (hs : s.BooksSound) : (lossPass s).st.BooksSound := by
  have hfew : ∀ {st}, s.station = st → st ≠ .conflict → s.echoMismatch ≠ 3 :=
    fun hst hne h => hne (hst.symm.trans (hs.conflict h))
  unfold lossPass
  dsimp only
  split
  next hst => exact hs.enterUntimed (hfew hst nofun)
  next hst => exact hs.enterUntimed (hfew hst nofun)
  next hst => exact hs.enterUntimed (hfew hst nofun)
  next hst => exact hs.withdrawn (hfew hst nofun)
  next hst => exact hs.withdrawn (hfew hst nofun)
  all_goals exact hs

/-! ## The requests -/

theorem State.BooksSound.ofStation {s : State} (hs : s.BooksSound) {st : Station} {count : Nat} {lout : Lout}
    (hcount : count ≤ 2) (hst : stationSound st) (hlout : sendsNothing st = true → lout = .released) :
    { s with station := st, echoMismatch := count, lout := lout }.BooksSound :=
  { hs with
    echoes := show count ≤ 3 by omega
    conflict := fun h : count = 3 => by omega
    station := hst
    lout := hlout }

theorem State.BooksSound.mapPorts {s : State} (hs : s.BooksSound) (f : Fin 8 → Port → Port) :
    (s.mapPorts f).BooksSound := { hs with }

theorem State.BooksSound.updPort {s : State} (hs : s.BooksSound) (p : Fin 8) (f : Port → Port) :
    (s.updPort p f).BooksSound := { hs with }

theorem State.BooksSound.mapMixes {s : State} (hs : s.BooksSound) (f : Fin 4 → Mix → Mix) :
    (s.mapMixes f).BooksSound := { hs with }

theorem State.BooksSound.updMix {s : State} (hs : s.BooksSound) (m : Fin 4) (f : Mix → Mix) :
    (s.updMix m f).BooksSound := { hs with }

theorem State.BooksSound.silence {s : State} (hs : s.BooksSound) : s.silence.BooksSound := { hs with }

theorem State.BooksSound.mapLanes {s : State} (hs : s.BooksSound) {f : Fin 16 → Lane → Lane}
    (hf : ∀ l, (s.lanes.get l).countsSound → (f l (s.lanes.get l)).countsSound) : (s.mapLanes f).BooksSound := by
  have hlanes : ∀ l, ((s.mapLanes f).lanes.get l).countsSound := fun l => by
    rw [State.mapLanes_lanes, tab_get]
    exact hf l (hs.lanes l)
  generalize ht : (s.mapLanes f).lanes = lanes at hlanes
  have hshape : s.mapLanes f = { s with lanes := lanes } := ht ▸ rfl
  rw [hshape]
  exact { hs with lanes := hlanes }

theorem State.BooksSound.updLane {s : State} (hs : s.BooksSound) {lane : Fin 16} {f : Lane → Lane}
    (hf : ∀ l : Lane, l.countsSound → (f l).countsSound) : (s.updLane lane f).BooksSound :=
  { hs with
    lanes := fun l => by
      rw [State.updLane_lanes, upd_get]
      split
      · exact hf _ (hs.lanes l)
      · exact hs.lanes l }

theorem State.BooksSound.withLink {s : State} (hs : s.BooksSound) {link : Link}
    (hlink : s.link.cutCount ≤ 65535 → link.cutCount ≤ 65535) : { s with link := link }.BooksSound :=
  { hs with cuts := hlink hs.cuts }

theorem State.BooksSound.few_echoes {s : State} (hs : s.BooksSound) (hst : s.station ≠ .conflict) :
    s.echoMismatch ≤ 2 := by
  have := hs.echoes
  have : s.echoMismatch ≠ 3 := fun h => hst (hs.conflict h)
  omega

theorem RequestChange.booksSound {s t : State} (hchange : RequestChange s t) (hs : s.BooksSound) : t.BooksSound := by
  cases hchange with
  | nothing => exact hs
  | armed => exact hs.withLink id
  | countsCleared =>
    exact ((hs.mapLanes fun _ _ => ⟨Nat.zero_le _, Nat.zero_le _, Nat.zero_le _, Nat.zero_le _, Nat.zero_le _⟩).mapPorts
      _).withLink fun _ => Nat.zero_le _
  | eventRead =>
    exact { hs with
      events := by
        have := hs.events
        simp only [List.length_tail]
        omega
      overflow := nofun }
  | withdrawing hrunning =>
    exact hs.ofStation (hs.few_echoes (by rw [hrunning]; nofun)) (Nat.zero_le _) (by simp [sendsNothing])
  | closing hactive =>
    exact ((hs.mapPorts _).mapMixes _).ofStation
      (hs.few_echoes fun h => by simp [State.active, h] at hactive) (Nat.zero_le _) (by simp [sendsNothing]) |>.silence
  | rejoined hwithdrawn =>
    exact hs.ofStation (Nat.zero_le _) trivial fun _ => hs.lout (by rw [hwithdrawn]; rfl)
  | testing hwithdrawn =>
    exact hs.ofStation (hs.few_echoes (by rw [hwithdrawn]; nofun)) (by simp [stationSound]) (by simp [sendsNothing])
  | restored g => exact hs.mapPorts _
  | port p f _ => exact hs.updPort p f
  | mix m f _ => exact hs.updMix m f

/-! ## Every move -/

theorem Lane.complete_countsSound {lane : Lane} (h : lane.countsSound) (frame : Received) (untimed : Bool) :
    (lane.complete frame untimed).countsSound := by
  obtain ⟨hgood, hcheck, hstation, hslips, htest⟩ := h
  unfold Lane.complete Lane.count
  cases frame.cls with
  | good => exact ⟨addCount_le_max .., hcheck, hstation, hslips, htest⟩
  | checkFailure => exact ⟨hgood, addCount_le_max .., hstation, hslips, htest⟩
  | stationMismatch => exact ⟨hgood, hcheck, addCount_le_max .., hslips, htest⟩
  | testFrame => exact ⟨hgood, hcheck, hstation, hslips, addCount_le_max ..⟩

theorem State.BooksSound.beginReset {s : State} (hs : s.BooksSound) : s.beginReset.BooksSound :=
  { (hs.mapLanes (f := fun _ lane => { lane with receiving := false }) fun _ h => h).silence with
    events := Nat.zero_le 32
    overflow := nofun
    position := Nat.zero_le 16
    lout := fun _ => rfl }

theorem Lane.reset_countsSound (receiving : Bool) : { Lane.reset with receiving := receiving }.countsSound := by
  simp [Lane.countsSound, Lane.reset]

theorem State.reset_booksSound : State.reset.BooksSound where
  events := Nat.zero_le 32
  overflow := nofun
  history := Nat.zero_le 8
  sequences := trivial
  feeds := nofun
  channels := nofun
  position := Nat.zero_le 16
  lanes := fun l => by rw [show State.reset.lanes.get l = Lane.reset by simp [State.reset]]; exact Lane.reset_countsSound false
  cuts := Nat.zero_le _
  echoes := Nat.zero_le 3
  conflict := nofun
  station := trivial
  missed := Nat.zero_le 4
  timed := fun _ => Nat.zero_le 3
  goodRun := Nat.zero_le 4
  running := nofun
  lout := fun _ => rfl

theorem State.BooksSound.withResets {s : State} (hs : s.BooksSound) (resets : Resets) :
    { s with resets := resets }.BooksSound := { hs with }

theorem resetEnded_booksSound (s : State) (cause : ResetCause) (fin : ResetEnd) : (resetEnded s cause fin).BooksSound :=
  { State.reset_booksSound with
    lanes := fun l => by simpa [resetEnded] using Lane.reset_countsSound _
    cuts := Nat.zero_le _
    running := nofun }

theorem State.missStrobe_booksSound {s : State} (hs : s.BooksSound) : s.missStrobe.BooksSound := by
  unfold State.missStrobe
  dsimp only
  split
  · have hlost : { s.monitor with condition := .lost, reference := none, missed := 4 : Monitor }.Sound :=
      ⟨le_rfl, fun h => (nomatch h), hs.goodRun, fun _ h => (h rfl).elim⟩
    exact State.raiseAll_booksSound (lossPass_booksSound (hs.withMonitor hlost)) _
  next hfew =>
    exact hs.withMonitor ⟨show s.monitor.missed + 1 ≤ 4 by omega, fun _ => show s.monitor.missed + 1 ≤ 3 by omega,
      hs.goodRun, hs.running⟩

theorem Move.booksSound {s t : State} (m : Move s t) (hs : s.BooksSound) : t.BooksSound := by
  cases m with
  | strobe inp =>
    refine State.afterStrobe_keeps (inv := State.BooksSound) inp (fun _ h => ?_) (fun hst h => ?_)
      (fun u hu h => u.afterStrobe_booksSound inp hu h) hs
    · have := h.withMonitor (Monitor.Sound.strobe h.goodRun inp.instant)
      exact { this with }
    · exact h.ofStation (Nat.zero_le _) trivial fun _ => h.lout (by rw [hst]; rfl)
  | missed => exact State.missStrobe_booksSound hs
  | runTimeout =>
    exact hs.withMonitor ⟨hs.missed, hs.timed, Nat.zero_le 4, fun _ h => (h rfl).elim⟩
  | follow lane => exact hs.updLane fun _ h => h
  | note =>
    exact { hs with
      conflict := fun h => by rw [State.withStation_station, hs.conflict h]; rfl
      station := stationSound_noteStart hs.station
      lout := fun h => hs.lout ((sendsNothing_noteStart _).symm.trans h) }
  | close lane => exact hs.updLane fun _ h => h
  | complete lane frame untimed => exact hs.updLane fun _ h => Lane.complete_countsSound h frame untimed
  | sample _ adin h =>
    unfold execSampleFrame at h
    split_ifs at h with _ _ hlt <;> cases h
    · exact hs
    · exact { hs with }
    · exact { hs with position := Nat.succ_le_of_lt hlt }
    · exact { hs with }
  | link l hl => exact hs.withLink hl
  | free n => exact { hs with }
  | request code args => exact (decideRequest_change code args s).booksSound hs
  | hold cause =>
    obtain ⟨resets, h | h⟩ := s.holdReset_cases cause
    · rw [h]; exact hs.withResets resets
    · rw [h]; exact hs.beginReset.withResets resets
  | release cause fin =>
    rcases s.releaseReset_cases cause fin with ⟨resets, h⟩ | h
    · rw [h]; exact hs.withResets resets
    · rw [h]; exact resetEnded_booksSound s cause fin

/-- Settles O58: a mix changes by the requests and by the claim statuses of a strobe; every count is bounded where it
is written, and every entry to a state that sends nothing releases LOUT. -/
theorem stepsKeepTheBooksSound : Obligations.StepsKeepTheBooksSound := fun s t hstep =>
  ⟨fun hs => step_keeps State.MixesSound (fun _ _ h => h.of_mixes_eq rfl) (fun _ _ m => m.mixesSound) s t hs hstep,
    fun hs => step_keeps State.BooksSound (fun _ _ h => { h with }) (fun _ _ m => m.booksSound) s t hs hstep⟩

end Sys2Proof.Machine
end

section
/-! The directory at a taken strobe (R24 to R28): what an entry is read from, and how the lanes and the directory stay
in agreement. -/

namespace Sys2Proof.Machine

/-! ## The entry a frame gives a channel (R25, R26) -/

/-- Where a channel's descriptor and samples stand in a frame: after those of the shown channels below it. -/
def Frame.place (f : Frame) (c : Fin 16) : Nat := (f.sections.shown.filter fun x => decide (x.val < c.val)).length

/-- The body that a frame gives a channel it shows, by the channel's kind (R24, R26). -/
def Frame.bodyOf (f : Frame) (c : Fin 16) : Option EntryBody :=
  let field := fun i => byteAt f.sections.descriptors (4 * f.place c + i)
  match kindOfChannel c with
  | .party => partyBody (field 0) (field 1) (field 2) (field 3)
  | .feed => some .feed
  | .mix => mixBody c f.sections.records

theorem entryOf_of_final {f : Frame} {c : Fin 16} (h : f.final = true) : entryOf f c = none := by
  simp [entryOf, h]

theorem entryOf_of_hidden {f : Frame} {c : Fin 16} (h : c ∉ f.sections.shown) : entryOf f c = none := by
  simp [entryOf, h]

theorem entryOf_of_shown {f : Frame} {c : Fin 16} (hfinal : f.final = false) (hshown : c ∈ f.sections.shown) :
    entryOf f c =
      if samplesInRange (kindOfChannel c) (blockAt f.sections.samples (f.place c)) then
        (f.bodyOf c).map fun b =>
          { sequence := f.sequence, fresh := true, age := 0, samples := blockAt f.sections.samples (f.place c), body :=
            b }
      else none := by
  have hcond : (f.final || !f.sections.shown.contains c) = false := by simp [hfinal, hshown]
  unfold entryOf Frame.bodyOf Frame.place
  simp only [hcond, Bool.false_eq_true, if_false]
  cases kindOfChannel c <;> rfl

/-- What an entry read from a frame is. -/
theorem entryOf_eq_some {f : Frame} {c : Fin 16} {e : Entry} (h : entryOf f c = some e) :
    samplesInRange (kindOfChannel c) e.samples = true ∧ f.bodyOf c = some e.body ∧ e.sequence = f.sequence
      ∧ e.fresh = true ∧ e.age = 0 := by
  cases hfinal : f.final with
  | true => rw [entryOf_of_final hfinal] at h; cases h
  | false =>
    by_cases hshown : c ∈ f.sections.shown
    · rw [entryOf_of_shown hfinal hshown] at h
      obtain ⟨hrange, b, hbody, rfl⟩ := by simpa only [Option.ite_none_right_eq_some, Option.map_eq_some_iff] using h
      exact ⟨hrange, hbody, rfl, rfl, rfl⟩
    · rw [entryOf_of_hidden hshown] at h; cases h

/-- An entry's body is of its channel's kind (R24). -/
def bodyFits (c : Fin 16) (body : EntryBody) : Prop :=
  match kindOfChannel c, body with
  | .party, .party _ _ _ _ => True
  | .feed, .feed => True
  | .mix, .mix _ => True
  | _, _ => False

theorem mixBody_eq_some {c : Fin 16} {records : List RawRecord} {body : EntryBody}
    (h : mixBody c records = some body) : ∃ r, body = .mix (compRecordOf c r) := by
  unfold mixBody at h
  split at h
  next r _ =>
    split_ifs at h
    exact ⟨r, (Option.some.inj h).symm⟩
  · cases h

theorem Frame.bodyOf_fits {f : Frame} {c : Fin 16} {body : EntryBody} (h : f.bodyOf c = some body) :
    bodyFits c body := by
  unfold Frame.bodyOf at h
  unfold bodyFits
  cases hk : kindOfChannel c with
  | party =>
    rw [hk] at h
    obtain ⟨st, -, -, -, -, rfl⟩ := partyBody_eq_some h
    trivial
  | feed => rw [hk] at h; cases h; trivial
  | mix =>
    rw [hk] at h
    obtain ⟨r, rfl⟩ := mixBody_eq_some h
    trivial

/-! ## The receive states and the directory in agreement (R24, R27, R28) -/

/-- The part of the agreement that speaks of an entry's freshness and age. -/
def ageFits (receive : Receive) (e : Entry) : Prop :=
  match receive with
  | .absent => False
  | .acquiring _ _ => e.fresh = true ∧ e.age = 0
  | .present _ => e.fresh = true ∧ e.age = 0
  | .lapsed _ misses => e.fresh = false ∧ e.age = misses

theorem entrySound_iff {receive : Receive} {c : Fin 16} {e : Entry} :
    entrySound receive c e ↔ bodyFits c e.body ∧ ageFits receive e := by
  unfold entrySound bodyFits ageFits
  exact Iff.rfl

theorem receiveValid_heard (receive : Receive) (sequence : Seq) :
    (∃ previous acquired, receiveValid receive sequence = .acquiring previous acquired)
      ∨ ∃ previous, receiveValid receive sequence = .present previous := by
  unfold receiveValid
  split
  · exact .inl ⟨_, _, rfl⟩
  · split
    · split
      · exact .inr ⟨_, rfl⟩
      · exact .inl ⟨_, _, rfl⟩
    · exact .inl ⟨_, _, rfl⟩
  · exact .inr ⟨_, rfl⟩
  · exact .inr ⟨_, rfl⟩

theorem receiveValid_sound {receive : Receive} (h : receiveSound receive) (sequence : Seq) :
    receiveSound (receiveValid receive sequence) := by
  cases receive with
  | acquiring previous acquired =>
    obtain ⟨hlow, hhigh⟩ := h
    simp only [receiveValid]
    split_ifs with hnext hdone
    · trivial
    · exact ⟨by omega, by omega⟩
    · exact ⟨le_rfl, by omega⟩
  | absent => exact ⟨le_rfl, by omega⟩
  | present previous => trivial
  | lapsed previous misses => trivial

/-- After a valid frame every entry of the lane is fresh and of age 0. -/
theorem receiveValid_ageFits {f : Frame} {c : Fin 16} {e : Entry} (h : entryOf f c = some e) (receive : Receive) :
    ageFits (receiveValid receive f.sequence) e := by
  obtain ⟨-, -, -, hfresh, hage⟩ := entryOf_eq_some h
  rcases receiveValid_heard receive f.sequence with ⟨_, _, hr⟩ | ⟨_, hr⟩ <;> rw [hr] <;> exact ⟨hfresh, hage⟩

theorem receiveMiss_sound {receive : Receive} (h : receiveSound receive) : receiveSound (receiveMiss receive) := by
  cases receive with
  | lapsed previous misses =>
    obtain ⟨hlow, hhigh⟩ := h
    simp only [receiveMiss]
    split_ifs with hdone
    · trivial
    · exact ⟨by omega, by omega⟩
  | present previous => exact ⟨le_rfl, by omega⟩
  | absent => trivial
  | acquiring previous acquired => trivial

/-- A lane that misses its frame and does not go ABSENT keeps its entries, one strobe older (R27). -/
theorem receiveMiss_ageFits {receive : Receive} {e : Entry} (hage : ageFits receive e) (hsound : receiveSound receive)
    (hstays : receiveMiss receive ≠ .absent) : ageFits (receiveMiss receive) e.aged := by
  cases receive with
  | absent => exact absurd rfl hstays
  | acquiring previous acquired => exact absurd rfl hstays
  | present previous =>
    obtain ⟨-, hzero⟩ := hage
    exact ⟨rfl, by simp [Entry.aged, hzero, addCount]⟩
  | lapsed previous misses =>
    obtain ⟨-, hold⟩ := hage
    obtain ⟨-, hhigh⟩ := hsound
    have hmore : ¬8 ≤ misses + 1 := fun h => hstays (by simp [receiveMiss, h])
    simp only [receiveMiss, if_neg hmore]
    exact ⟨rfl, by simp only [Entry.aged, addCount, hold]; omega⟩

/-- Without a valid frame a lane goes ABSENT or counts a miss (R12, R13). -/
theorem receiveAfter_of_unheard {lane : Lane} {frame : BlockFrame} (h : ∀ f, frame ≠ .valid f) :
    receiveAfter lane frame = .absent ∨ receiveAfter lane frame = receiveMiss lane.receive := by
  cases frame with
  | valid f => exact absurd rfl (h f)
  | invalid => exact .inr rfl
  | missing =>
    unfold receiveAfter
    dsimp only
    split
    · exact .inl rfl
    · exact .inr rfl

theorem entryAfter_of_unheard {frame : BlockFrame} (h : ∀ f, frame ≠ .valid f) (absent : Bool) (c : Fin 16)
    (entry : Option Entry) : entryAfter frame absent c entry = if absent then none else entry.map Entry.aged := by
  cases frame with
  | valid f => exact absurd rfl (h f)
  | invalid => rfl
  | missing => rfl

/-- One lane after the frame of its block: its receive state is sound and agrees with its entries. -/
theorem laneAfter_directorySound {lane : Lane} {entries : Fin 16 → Option Entry} (hsound : receiveSound lane.receive)
    (hentries : ∀ c e, entries c = some e → entrySound lane.receive c e) (frame : BlockFrame) :
    receiveSound (receiveAfter lane frame)
      ∧ ∀ c e, entryAfter frame (goesAbsent lane frame) c (entries c) = some e →
        entrySound (receiveAfter lane frame) c e := by
  by_cases hvalid : ∃ f, frame = .valid f
  · obtain ⟨f, rfl⟩ := hvalid
    refine ⟨receiveValid_sound hsound f.sequence, fun c e h => ?_⟩
    have hbody := (entryOf_eq_some h).2.1
    exact entrySound_iff.mpr ⟨Frame.bodyOf_fits hbody, receiveValid_ageFits h lane.receive⟩
  · have hunheard : ∀ f, frame ≠ .valid f := fun f h => hvalid ⟨f, h⟩
    have hafter := receiveAfter_of_unheard (lane := lane) hunheard
    have hreceive : receiveSound (receiveAfter lane frame) := by
      rcases hafter with h | h <;> rw [h]
      · trivial
      · exact receiveMiss_sound hsound
    refine ⟨hreceive, fun c e h => ?_⟩
    rw [entryAfter_of_unheard hunheard, Option.ite_none_left_eq_some, Option.map_eq_some_iff] at h
    obtain ⟨hstays, e, hold, rfl⟩ := h
    obtain ⟨hfits, hage⟩ := entrySound_iff.mp (hentries c e hold)
    have hpresent : lane.receive ≠ .absent := fun habsent => by rw [habsent] at hage; exact hage
    have hkept : receiveAfter lane frame ≠ .absent := fun habsent =>
      hstays (by simp [goesAbsent, hpresent, habsent])
    have hmiss := hafter.resolve_left hkept
    refine entrySound_iff.mpr ⟨hfits, ?_⟩
    rw [hmiss]
    exact receiveMiss_ageFits hage hsound (hmiss ▸ hkept)

theorem laneAfter_receive (lane : Lane) (frame : BlockFrame) : (laneAfter lane frame).receive =
    receiveAfter lane frame := by
  cases frame <;> rfl

theorem State.DirectorySound.of_eq {s t : State} (hs : s.DirectorySound)
    (hlanes : ∀ l, (t.lanes.get l).receive = (s.lanes.get l).receive) (hdirectory : t.directory = s.directory) :
    t.DirectorySound := fun l => by
  rw [hlanes, hdirectory]
  exact hs l

/-- Lanes all ABSENT and an empty directory agree. -/
theorem State.directorySound_of_empty {s : State} (hlanes : ∀ l, (s.lanes.get l).receive = .absent)
    (hdirectory : ∀ l c, (s.directory.get l).get c = none) : s.DirectorySound := fun l => by
  rw [hlanes]
  exact ⟨trivial, fun c e h => by rw [hdirectory] at h; cases h⟩

theorem State.afterStrobe_directorySound (s : State) (inp : StrobeInput) (h : s.takesStrobes) (hs : s.DirectorySound) :
    (s.afterStrobe inp).DirectorySound := fun l => by
  obtain ⟨hreceive, hentries⟩ := laneAfter_directorySound (hs l).1 (hs l).2 (s.blockFrame s.verdict l)
  simp only [s.afterStrobe_lane inp h, s.afterStrobe_directory inp h, State.filed_directory, laneAfter_receive]
  exact ⟨hreceive, hentries⟩

theorem lossPass_directorySound {s : State} (hs : s.DirectorySound) : (lossPass s).st.DirectorySound := by
  have huntimed : s.enterUntimed.DirectorySound :=
    State.directorySound_of_empty (fun l => by simp [State.enterUntimed, State.emptyAllClaims])
      fun l c => by simp [State.enterUntimed]
  unfold lossPass
  dsimp only
  split
  · exact huntimed
  · exact huntimed
  · exact huntimed
  all_goals exact hs.of_eq (fun _ => rfl) rfl

theorem RequestChange.directorySound {s t : State} (hchange : RequestChange s t) (hs : s.DirectorySound) :
    t.DirectorySound := by
  cases hchange with
  | countsCleared => exact hs.of_eq (fun l => by simp [Lane.clearCounts]) (by simp)
  | closing _ => exact hs.of_eq (fun l => by simp [State.enterClosing]) (by simp [State.enterClosing])
  | restored g => exact hs.of_eq (fun l => by simp [State.restoreGroup]) (by simp [State.restoreGroup])
  | _ => exact hs.of_eq (fun _ => rfl) rfl

/-- An update of one lane that leaves its receive state alone. -/
theorem State.DirectorySound.updLane {s : State} (hs : s.DirectorySound) (lane : Fin 16) {f : Lane → Lane}
    (hf : ∀ l, (f l).receive = l.receive) : (s.updLane lane f).DirectorySound := by
  refine hs.of_eq (fun l => ?_) rfl
  rw [State.updLane_lanes, upd_get]
  split
  · exact hf _
  · rfl

theorem Lane.complete_receive (lane : Lane) (frame : Received) (untimed : Bool) :
    (lane.complete frame untimed).receive = lane.receive := by
  unfold Lane.complete Lane.count
  cases frame.cls <;> rfl

theorem Move.directorySound {s t : State} (m : Move s t) (hs : s.DirectorySound) : t.DirectorySound := by
  cases m with
  | strobe inp =>
    exact State.afterStrobe_keeps (inv := State.DirectorySound) inp (fun _ h => h.of_eq (fun _ => rfl) rfl)
      (fun _ h => h.of_eq (fun _ => rfl) rfl) (fun u hu h => u.afterStrobe_directorySound inp hu h) hs
  | missed =>
    unfold State.missStrobe
    dsimp only
    split
    · refine (lossPass_directorySound (hs.of_eq (t := { s with monitor :=
        { s.monitor with condition := .lost, reference := none, missed := 4 } }) (fun _ => rfl) rfl)).of_eq
        (fun l => ?_) (State.raiseAll_directory _ _)
      rw [State.raiseAll_lanes]
    · exact hs.of_eq (fun _ => rfl) rfl
  | follow lane => exact hs.updLane lane fun _ => rfl
  | close lane => exact hs.updLane lane fun _ => rfl
  | complete lane frame untimed => exact hs.updLane lane fun l => l.complete_receive frame untimed
  | request code args => exact (decideRequest_change code args s).directorySound hs
  | hold cause =>
    obtain ⟨resets, h | h⟩ := s.holdReset_cases cause
    · rw [h]; exact hs.of_eq (fun _ => rfl) rfl
    · rw [h]; exact hs.of_eq (fun l => by simp [State.beginReset]) (by simp [State.beginReset])
  | release cause fin =>
    rcases s.releaseReset_cases cause fin with ⟨resets, h⟩ | h
    · rw [h]; exact hs.of_eq (fun _ => rfl) rfl
    · rw [h]
      exact State.directorySound_of_empty (fun l => by simp [resetEnded, Lane.reset])
        fun l c => by simp [resetEnded, State.reset]
  | sample _ adin h =>
    unfold execSampleFrame at h
    split_ifs at h <;> cases h <;> exact hs.of_eq (fun _ => rfl) rfl
  | _ => exact hs.of_eq (fun _ => rfl) rfl

/-- Settles O59: a valid frame makes its lane's entries anew, a miss ages them as it counts, and the eighth empties
them. -/
theorem stepsKeepTheDirectorySound : Obligations.StepsKeepTheDirectorySound :=
  step_keeps State.DirectorySound (fun _ _ hs => hs.of_eq (fun _ => rfl) rfl) fun _ _ m => m.directorySound

end Sys2Proof.Machine
end

section
/-! Every stored sample lies in the range of its kind (R26, R36, R50, R51), and what a strobe leaves of a port when the
level monitor comes to it. -/

namespace Sys2Proof.Machine

/-! ## Blocks -/

theorem forall_mem_block {P : Int → Prop} (b : Block) : (∀ v ∈ b.toList, P v) ↔ ∀ n, P (b.get n) := by
  constructor
  · exact fun h n => h _ (by simp [vector_get])
  · intro h v hv
    obtain ⟨i, hi, rfl⟩ := List.mem_iff_getElem.mp hv
    have := h ⟨i, by simpa using hi⟩
    rw [vector_get] at this
    simpa using this

theorem samplesInRange_iff (kind : Kind) (b : Block) :
    samplesInRange kind b = true ↔ if kind = .mix then wideSound b else blockSound b := by
  unfold samplesInRange wideSound blockSound
  rw [List.all_eq_true, forall_mem_block (P := fun v =>
    (if kind = .mix then wideInRange v else sampleInRange v) = true)]
  split <;> simp [wideInRange, sampleInRange]

theorem foldl_max_magnitude_le_iff (l : List Int) (m k : Nat) :
    l.foldl (fun m v => max m (magnitude v)) m ≤ k ↔ m ≤ k ∧ ∀ v ∈ l, magnitude v ≤ k := by
  induction l generalizing m with
  | nil => simp
  | cons v rest ih => simp [ih, and_assoc]

/-- The peak bounds every magnitude of the block, and is the least bound (R65). -/
theorem peakOf_le_iff (b : Block) (k : Nat) : peakOf b ≤ k ↔ ∀ n, (b.get n).natAbs ≤ k := by
  unfold peakOf
  rw [foldl_max_magnitude_le_iff, forall_mem_block (P := fun v => magnitude v ≤ k)]
  exact ⟨And.right, fun h => ⟨Nat.zero_le k, h⟩⟩

theorem natAbs_le_peakOf (b : Block) (n : Fin 16) : (b.get n).natAbs ≤ peakOf b := (peakOf_le_iff b _).mp le_rfl n

/-- The peak is the magnitude of one of the samples (R65). -/
theorem exists_natAbs_eq_peakOf (b : Block) : ∃ n, (b.get n).natAbs = peakOf b := by
  by_contra hne
  have hlt : ∀ n, (b.get n).natAbs < peakOf b := fun n =>
    lt_of_le_of_ne (natAbs_le_peakOf b n) fun h => hne ⟨n, h⟩
  have hpos : 0 < peakOf b := Nat.zero_lt_of_lt (hlt 0)
  have := (peakOf_le_iff b (peakOf b - 1)).mpr fun n => Nat.le_sub_one_of_lt (hlt n)
  omega

theorem peakOf_le_of_blockSound {b : Block} (h : blockSound b) : peakOf b ≤ 8388608 :=
  (peakOf_le_iff b _).mpr fun n => by
    obtain ⟨hlow, hhigh⟩ := h n
    omega

theorem blockSound_zero : blockSound Block.zero := fun n => by simp [Block.zero]

theorem saturate24_mem (v : Int) : -8388608 ≤ saturate24 v ∧ saturate24 v ≤ 8388607 := by
  unfold saturate24
  split_ifs <;> omega

theorem slotSample_mem (slot : BitVec 32) : -8388608 ≤ slotSample slot ∧ slotSample slot ≤ 8388607 := by
  have hlow : (-8388608 : Int) ≤ slotSample slot := BitVec.le_toInt _
  have hhigh : slotSample slot < 8388608 := BitVec.toInt_lt
  omega

theorem State.builtReturn_sound (s : State) (p : Fin 8) : blockSound (s.builtReturn p) := fun n => by
  rw [State.builtReturn, tab_get]
  exact saturate24_mem _

/-! ## A port when the level monitor comes to it -/

/-- The echo check, the listen window and the claim update leave a port as the fault inputs left it, its claims
apart. -/
theorem State.claimed_port_shape (s : State) (inp : StrobeInput) (p : Fin 8) :
    ∃ holder queue, (s.claimed inp).ports.get p = { (s.faulted inp).ports.get p with holder := holder, queue :=
      queue } := by
  obtain ⟨holder, queue, hlistened⟩ :
      ∃ holder queue, (s.listened inp).ports.get p = { (s.faulted inp).ports.get p with holder := holder, queue :=
        queue } := by
    rw [State.listened_port, State.echoed_port]
    split_ifs <;> exact ⟨_, _, rfl⟩
  rw [State.claimed_port, hlistened]
  split_ifs
  · obtain ⟨holder', queue', h⟩ := claimUpdate_shape (heardWants (s.blockFrames s.verdict) (s.portTag p))
      (s.absentLanes (s.blockFrames s.verdict)) ((s.closed inp).station == .running)
      { (s.faulted inp).ports.get p with holder := holder, queue := queue }
    exact ⟨holder', queue', h⟩
  · exact ⟨holder, queue, rfl⟩

theorem Port.changeState_peak (q : Port) (new : PortState) :
    (q.changeState new).peak = 0 ∨ (q.changeState new).peak = q.peak := by
  have hleave : q.leaveAir.peak = q.peak := by unfold Port.leaveAir; split <;> rfl
  unfold Port.changeState
  cases new with
  | idle => exact .inl rfl
  | outOfService => exact .inl rfl
  | _ => dsimp only; split_ifs <;> simp [Port.resetMonitor, hleave]

theorem Port.close_peak (q : Port) : q.close.peak = 0 ∨ q.close.peak = q.peak := by
  unfold Port.close
  split_ifs
  · exact .inr rfl
  · exact q.changeState_peak .idle

theorem State.checked_peak (s : State) (inp : StrobeInput) (p : Fin 8) :
    ((s.checked inp).ports.get p).peak = 0 ∨ ((s.checked inp).ports.get p).peak = (s.ports.get p).peak := by
  have hfaulted : ((s.faulted inp).ports.get p).peak = 0
      ∨ ((s.faulted inp).ports.get p).peak = (s.ports.get p).peak := by
    rw [State.faulted_port]
    split
    · exact Port.changeState_peak _ _
    · exact .inr rfl
  obtain ⟨holder, queue, hclaimed⟩ := s.claimed_port_shape inp p
  have hpeak : ((s.claimed inp).ports.get p).peak = ((s.faulted inp).ports.get p).peak := by rw [hclaimed]
  rw [State.checked_port]
  split
  · rcases ((s.claimed inp).ports.get p).close_peak with h | h
    · exact .inl h
    · rw [h, hpeak]; exact hfaulted
  · rw [hpeak]; exact hfaulted

/-- The returns and the cadence write no field of the level monitor. -/
theorem State.cadenced_port_shape (s : State) (inp : StrobeInput) (p : Fin 8) :
    ∃ misses saturations missReported counter,
      (s.cadenced inp).ports.get p =
        { (s.measured inp).ports.get p with
          misses := misses, saturations := saturations, missReported := missReported, counter := counter } := by
  rw [State.cadenced_port, State.returned_port]
  split_ifs <;> exact ⟨_, _, _, _, rfl⟩

theorem State.cadenced_peak_le {s : State} (inp : StrobeInput) (p : Fin 8) (hpeak : (s.ports.get p).peak ≤ 8388608)
    (hblock : blockSound (s.captured p)) : ((s.cadenced inp).ports.get p).peak ≤ 8388608 := by
  obtain ⟨_, _, _, _, h⟩ := s.cadenced_port_shape inp p
  rw [h, State.measured_port]
  split
  · exact peakOf_le_of_blockSound hblock
  · have hchecked := s.checked_peak inp p
    dsimp only
    omega

/-! ## The strobe and the requests -/

theorem State.afterStrobe_samplesSound (s : State) (inp : StrobeInput) (h : s.takesStrobes) (hs : s.SamplesSound) :
    (s.afterStrobe inp).SamplesSound where
  capture := fun c => by
    rw [s.afterStrobe_capture inp h, replicate_get]
    exact blockSound_zero
  output := fun p => by
    rw [s.afterStrobe_output inp h, State.returned_output]
    split
    · exact State.builtReturn_sound _ p
    · exact blockSound_zero
  history := by
    rw [s.afterStrobe_history inp h, State.transmitted_history]
    have hnew : ∀ c ∈ (s.judged inp).recorded, blockSound c.2 := fun c hc => by
      obtain ⟨-, hlt, hblock⟩ := ((s.judged inp).mem_recorded c.1 c.2).mp hc
      rw [hblock, State.judged_capture]
      exact hs.capture _
    split
    · intro r hr
      rcases mem_placeRecord hr with hr | rfl
      · exact hs.history r hr
      · exact hnew
    · exact hs.history
  directory := fun l c e he => by
    rw [s.afterStrobe_directory inp h, State.filed_directory] at he
    by_cases hvalid : ∃ f, s.blockFrame s.verdict l = .valid f
    · obtain ⟨f, hf⟩ := hvalid
      rw [hf] at he
      exact (samplesInRange_iff _ _).mp (entryOf_eq_some he).1
    · rw [entryAfter_of_unheard fun f hf => hvalid ⟨f, hf⟩, Option.ite_none_left_eq_some, Option.map_eq_some_iff] at he
      obtain ⟨-, before, hbefore, rfl⟩ := he
      exact hs.directory l c before hbefore
  peaks := fun p => by
    rw [s.afterStrobe_ports inp h]
    exact State.cadenced_peak_le inp p (hs.peaks p) (hs.capture _)

theorem PortEdit.peak {s : State} {p : Fin 8} {q : Port} (hedit : PortEdit s p q) :
    q.peak = 0 ∨ q.peak = (s.ports.get p).peak := by
  have hrecipe : ∀ name recipe, ((s.ports.get p).setRecipe name recipe).peak = (s.ports.get p).peak := by
    intro name recipe
    cases name <;> rfl
  cases hedit with
  | moved target => exact Port.changeState_peak _ target
  | cleared => exact .inl rfl
  | regained name tag gain => exact .inr (hrecipe _ _)
  | entered name tag gain => exact .inr (hrecipe _ _)
  | removed name tag => exact .inr (hrecipe _ _)
  | _ => exact .inr rfl

theorem State.SamplesSound.of_eq {s t : State} (hs : s.SamplesSound) (hcapture : t.capture = s.capture)
    (houtput : t.output = s.output) (hhistory : t.history = s.history) (hdirectory : t.directory = s.directory)
    (hpeaks : ∀ p, (t.ports.get p).peak = 0 ∨ (t.ports.get p).peak = (s.ports.get p).peak) : t.SamplesSound where
  capture := hcapture ▸ hs.capture
  output := houtput ▸ hs.output
  history := hhistory ▸ hs.history
  directory := hdirectory ▸ hs.directory
  peaks := fun p => by
    rcases hpeaks p with h | h <;> rw [h]
    · exact Nat.zero_le _
    · exact hs.peaks p

@[simp] theorem State.silence_output (s : State) : s.silence.output = Vector.replicate 8 Block.zero := rfl

/-- Silent output buffers hold zeros. -/
theorem State.SamplesSound.silence {s : State} (hs : s.SamplesSound) : s.silence.SamplesSound :=
  { hs with
    output := fun p => by
      rw [State.silence_output, replicate_get]
      exact blockSound_zero }

/-- Empty stores: no capture, no history, no entry. -/
theorem State.samplesSound_of_empty {s : State} (hcapture : s.capture = Vector.replicate 12 Block.zero)
    (houtput : s.output = Vector.replicate 8 Block.zero) (hhistory : s.history = [])
    (hdirectory : s.directory = Vector.replicate 16 (Vector.replicate 16 none))
    (hpeaks : ∀ p, (s.ports.get p).peak ≤ 8388608) : s.SamplesSound where
  capture := fun c => by rw [hcapture, replicate_get]; exact blockSound_zero
  output := fun p => by rw [houtput, replicate_get]; exact blockSound_zero
  history := by rw [hhistory]; nofun
  directory := fun l c e h => by rw [hdirectory, replicate_get, replicate_get] at h; cases h
  peaks := hpeaks

theorem RequestChange.samplesSound {s t : State} (hchange : RequestChange s t) (hs : s.SamplesSound) :
    t.SamplesSound := by
  cases hchange with
  | countsCleared =>
    exact hs.of_eq (by simp) (by simp) (by simp) (by simp) fun p => .inr (by simp [Port.clearCounts])
  | closing _ =>
    refine (hs.of_eq (t := s.enterClosing .forced) (by simp [State.enterClosing]) (by simp [State.enterClosing])
      (by simp [State.enterClosing]) (by simp [State.enterClosing]) fun p => ?_).silence
    rw [State.enterClosing_port]
    exact Port.close_peak _
  | restored g =>
    refine hs.of_eq (by simp [State.restoreGroup]) (by simp [State.restoreGroup]) (by simp [State.restoreGroup])
      (by simp [State.restoreGroup]) fun p => ?_
    simp only [State.restoreGroup, State.mapPorts_ports, tab_get]
    split
    · exact Port.changeState_peak _ _
    · exact .inr rfl
  | port p f hedit =>
    refine hs.of_eq rfl rfl rfl rfl fun j => ?_
    rw [State.updPort_ports, upd_get]
    split
    next h => exact h ▸ hedit.peak
    · exact .inr rfl
  | _ => exact hs.of_eq rfl rfl rfl rfl fun _ => .inr rfl

theorem State.enterUntimed_samplesSound {s : State} (hs : s.SamplesSound) : s.enterUntimed.SamplesSound :=
  State.samplesSound_of_empty (by simp [State.enterUntimed]) (by simp [State.enterUntimed])
    (by simp [State.enterUntimed]) (by simp [State.enterUntimed]) fun p => by
      have := hs.peaks p
      simpa [State.enterUntimed, State.emptyAllClaims, Port.emptyClaims] using this

theorem lossPass_samplesSound {s : State} (hs : s.SamplesSound) : (lossPass s).st.SamplesSound := by
  unfold lossPass
  dsimp only
  split
  · exact State.enterUntimed_samplesSound hs
  · exact State.enterUntimed_samplesSound hs
  · exact State.enterUntimed_samplesSound hs
  all_goals exact hs.of_eq rfl rfl rfl rfl fun _ => .inr rfl

theorem State.capturedSlots_sound {s : State} (hs : s.SamplesSound) (adin : Vector (BitVec 32) 16) (n : Fin 16)
    (c : Fin 12) : blockSound ((s.capturedSlots adin n).get c) := fun k => by
  rw [State.capturedSlots, tab_get, upd_get]
  split
  · exact slotSample_mem _
  · exact hs.capture c k

theorem Move.samplesSound {s t : State} (m : Move s t) (hs : s.SamplesSound) : t.SamplesSound := by
  cases m with
  | strobe inp =>
    exact State.afterStrobe_keeps (inv := State.SamplesSound) inp
      (fun _ h => h.of_eq rfl rfl rfl rfl fun _ => .inr rfl) (fun _ h => h.of_eq rfl rfl rfl rfl fun _ => .inr rfl)
      (fun u hu h => u.afterStrobe_samplesSound inp hu h) hs
  | missed =>
    unfold State.missStrobe
    dsimp only
    split
    · refine (lossPass_samplesSound (hs.of_eq (t := { s with monitor :=
        { s.monitor with condition := .lost, reference := none, missed := 4 } }) rfl rfl rfl rfl
        fun _ => .inr rfl)).of_eq (State.raiseAll_capture _ _) (State.raiseAll_output _ _) (State.raiseAll_history _ _)
        (State.raiseAll_directory _ _) fun p => .inr (by rw [State.raiseAll_ports])
    · exact hs.of_eq rfl rfl rfl rfl fun _ => .inr rfl
  | request code args => exact (decideRequest_change code args s).samplesSound hs
  | hold cause =>
    obtain ⟨resets, h | h⟩ := s.holdReset_cases cause
    · rw [h]; exact hs.of_eq rfl rfl rfl rfl fun _ => .inr rfl
    · rw [h]
      have hbegun : s.beginReset.SamplesSound :=
        { capture := fun c => by
            rw [show s.beginReset.capture = Vector.replicate 12 Block.zero by simp [State.beginReset], replicate_get]
            exact blockSound_zero
          output := fun p => by
            rw [show s.beginReset.output = Vector.replicate 8 Block.zero by simp [State.beginReset], replicate_get]
            exact blockSound_zero
          history := by rw [show s.beginReset.history = s.history by simp [State.beginReset]]; exact hs.history
          directory := by
            rw [show s.beginReset.directory = s.directory by simp [State.beginReset]]; exact hs.directory
          peaks := by rw [s.beginReset_ports]; exact hs.peaks }
      exact hbegun.of_eq rfl rfl rfl rfl fun _ => .inr rfl
  | release cause fin =>
    rcases s.releaseReset_cases cause fin with ⟨resets, h⟩ | h
    · rw [h]; exact hs.of_eq rfl rfl rfl rfl fun _ => .inr rfl
    · rw [h]
      exact State.samplesSound_of_empty rfl rfl rfl rfl fun p => by simp [resetEnded, State.reset, Port.reset]
  | sample _ adin h =>
    unfold execSampleFrame at h
    split_ifs at h with _ _ hlt <;> cases h
    · exact hs
    · exact hs.of_eq rfl rfl rfl rfl fun _ => .inr rfl
    · exact { hs with capture := State.capturedSlots_sound hs adin _ }
    · exact hs.of_eq rfl rfl rfl rfl fun _ => .inr rfl
  | _ => exact hs.of_eq rfl rfl rfl rfl fun _ => .inr rfl

/-- Settles O60: samples come in by the 24-bit slots of the card audio port and by frames whose channels are filed in
range alone; what is played is saturated. -/
theorem stepsKeepTheSamplesInRange : Obligations.StepsKeepTheSamplesInRange :=
  step_keeps State.SamplesSound (fun _ _ hs => hs.of_eq rfl rfl rfl rfl fun _ => .inr rfl)
    fun _ _ m => m.samplesSound

end Sys2Proof.Machine
end

section
/-! The machine and its queue, the reset state, and the beginning and the end of resets (R18, R165 to R167). -/

namespace Sys2Proof.Machine

/-! ## A step and its command -/

/-- Settles O1: a step is the command at the front. -/
theorem stepTakesTheFrontCommand : Obligations.StepTakesTheFrontCommand :=
  ⟨fun c rest s h => by rw [step, h], fun s h => by rw [step, h]⟩

/-- A request command clocks its message (R157, R179). -/
theorem exec_request {i : Instr} {code : Byte} {args : List Byte} (h : requestOf i = some (code, args)) (s : State) :
    exec i s = .next (s.clockMessage code args) := by
  cases i <;> cases h <;> rfl

/-- Both outcomes of a guarded command are a next state. -/
theorem next_ite {c : Prop} [Decidable c] (a b : State) :
    ∃ t, (if c then .next a else .next b : Host.Outcome State Fault Refusal) = .next t := by
  split <;> exact ⟨_, rfl⟩

/-- No command faults or is refused. -/
theorem exec_next (c : Instr) (s : State) : ∃ t, exec c s = .next t := by
  cases c with
  | strobeMissing => exact next_ite _ _
  | strobeLoss => exact next_ite _ _
  | goodRunTimeout => exact next_ite _ _
  | frameStart lane =>
    simp only [exec, execFrameStart]
    split
    · exact ⟨_, rfl⟩
    · exact next_ite _ _
  | frameComplete lane bytes ending =>
    simp only [exec, execFrameComplete]
    split
    · exact ⟨_, rfl⟩
    · exact next_ite _ _
  | powerOnReset => exact next_ite _ _
  | powerOnRelease fin => exact next_ite _ _
  | resetPinAssert => exact next_ite _ _
  | resetPinNegate fin => exact next_ite _ _
  | commandResetBegin moment =>
    simp only [exec, execCommandResetBegin]
    split
    · cases moment <;> exact ⟨_, rfl⟩
    · exact ⟨_, rfl⟩
  | commandResetExpiry fin => exact next_ite _ _
  | select clocked =>
    simp only [exec, execSelect]
    split
    · exact ⟨_, rfl⟩
    · exact next_ite _ _
  | deselect clocked => exact next_ite _ _
  | sampleFrame adin =>
    simp only [exec, execSampleFrame]
    split_ifs <;> exact ⟨_, rfl⟩
  | responseEnd => exact next_ite _ _
  | _ => exact ⟨_, rfl⟩

/-! ## The queue of commands -/

theorem RequestChange.pending {s t : State} (hchange : RequestChange s t) : t.pending = s.pending := by
  cases hchange with
  | countsCleared => simp
  | closing _ => simp [State.enterClosing]
  | restored g => simp [State.restoreGroup]
  | _ => rfl

theorem lossPass_pending (s : State) : (lossPass s).st.pending = s.pending := by
  unfold lossPass
  dsimp only
  split <;> simp [State.enterUntimed, State.emptyAllClaims]

theorem Move.pending {s t : State} (m : Move s t) : t.pending = s.pending := by
  cases m with
  | strobe inp =>
    exact State.afterStrobe_keeps (inv := fun u => u.pending = s.pending) inp (fun _ h => h) (fun _ h => h)
      (fun u hu h => (u.afterStrobe_pending inp hu).trans h) rfl
  | missed =>
    unfold State.missStrobe
    dsimp only
    split
    · exact (State.raiseAll_pending _ _).trans (lossPass_pending _)
    · rfl
  | request code args => exact (decideRequest_change code args s).pending
  | hold cause =>
    obtain ⟨resets, h | h⟩ := s.holdReset_cases cause
    · rw [h]
    · rw [h]; simp [State.beginReset]
  | release cause fin =>
    rcases s.releaseReset_cases cause fin with ⟨resets, h⟩ | h
    · rw [h]
    · rw [h]; rfl
  | sample _ adin h =>
    unfold execSampleFrame at h
    split_ifs at h <;> cases h <;> rfl
  | _ => rfl

/-- Settles O2: every arm answers a next state, and no move writes the queue. -/
theorem noCommandStopsOrQueues : Obligations.NoCommandStopsOrQueues := fun c s => by
  obtain ⟨t, ht⟩ := exec_next c s
  exact ⟨t, ht, (exec_moves c s t ht).keeps (fun u => u.pending = s.pending) (fun _ _ m h => m.pending.trans h) rfl⟩

/-! ## The reset state -/

theorem State.reset_port (p : Fin 8) : State.reset.ports.get p = Port.reset := by simp [State.reset]

theorem State.reset_lane (l : Fin 16) : State.reset.lanes.get l = Lane.reset := by simp [State.reset]

theorem State.reset_mix (m : Fin 4) : State.reset.mixes.get m = Mix.reset := by simp [State.reset]

/-- Settles O3: the reset values, field by field. -/
theorem resetGivesTheSpecsValues : Obligations.ResetGivesTheSpecsValues := by
  unfold Obligations.ResetGivesTheSpecsValues
  simp only [State.reset_port, State.reset_lane, State.reset_mix]
  simp [State.reset, Port.reset, Lane.reset, Mix.reset, State.withdrawingFlag, State.attention, State.entry]

/-- Settles O55: the reset ports, mixes, lanes and records meet the invariants. -/
theorem resetIsSound : Obligations.ResetIsSound :=
  ⟨State.settingsSound_of_reset State.reset_port,
    fun p => State.reset_port p ▸ .of_empty _ rfl rfl fun _ => rfl,
    fun m => State.reset_mix m ▸ Mix.Sound.reset,
    State.directorySound_of_empty (fun l => by rw [State.reset_lane]; rfl) fun l c => by simp [State.reset],
    State.reset_booksSound,
    State.samplesSound_of_empty rfl rfl rfl rfl fun p => by rw [State.reset_port]; exact Nat.zero_le _⟩

/-! ## The beginning of a reset (R18, R117, R165 to R167) -/

/-- A reset begun with some reset holding: what the statements call the beginning of a reset, the link's state and
CDOUT apart. -/
theorem resetBegun_of {s u : State} {resets : Resets} {link : Link} (hu : u = { s with link := link })
    (hcut : link.cutCount = s.link.cutCount) (hholds : (resets.power || resets.pin || resets.command) = true) :
    resetBegun s { u.beginReset with resets := resets } := by
  subst hu
  constructor
  case holds => exact hholds
  case link => exact ⟨rfl, rfl, hcut⟩
  case events => exact ⟨rfl, rfl, rfl⟩
  case audio => exact ⟨fun c => by simp [State.beginReset], fun p => by simp [State.beginReset], fun n =>
    by simp [State.beginReset]⟩
  case lanes => exact fun l => by simp [State.beginReset]
  all_goals simp [State.beginReset]

theorem State.holdReset_of_idle {s : State} (h : s.inReset = false) (cause : ResetCause) :
    s.holdReset cause = { s.beginReset with
      resets := match cause with
        | .power => { s.resets with power := true, command := false }
        | .pin => { s.resets with pin := true }
        | .command => { s.resets with command := true } } := by
  have hbegun : s.beginReset.resets = s.resets := by simp [State.beginReset]
  unfold State.holdReset
  rw [h]
  cases cause <;> simp only [Bool.false_eq_true, if_false, hbegun]

theorem State.resets_of_idle {s : State} (h : s.inReset = false) :
    s.resets.power = false ∧ s.resets.pin = false ∧ s.resets.command = false := by
  simpa [State.inReset, and_assoc] using h

theorem State.beginReset_selected (s : State) : s.beginReset.link.selected = s.link.selected := by
  simp [State.beginReset]

/-- The hold of a command reset, begun from a state that differs from `s` in its link alone (R165). -/
theorem resetBegun_command {s u : State} (h : s.inReset = false) {link : Link} (hu : u = { s with link := link })
    (hcut : link.cutCount = s.link.cutCount) :
    resetBegun s (u.holdReset .command) ∧ (u.holdReset .command).resets = { s.resets with command := true }
      ∧ (u.holdReset .command).link.selected = link.selected := by
  have hidle : u.inReset = false := hu ▸ h
  have hresets : u.resets = s.resets := hu ▸ rfl
  have hlink : u.link.selected = link.selected := hu ▸ rfl
  rw [State.holdReset_of_idle hidle, hresets]
  exact ⟨resetBegun_of hu hcut (by simp), rfl, u.beginReset_selected.trans hlink⟩

/-- The end of a selection in which no request has begun cuts nothing (R159). -/
theorem State.endSelection_of_uncut {s : State} (hstate : ∀ b bytes, s.link.state ≠ .request (b :: bytes))
    (hcuts : s.link.cutCount ≤ 65535) :
    s.endSelection =
      let ended : State := { s with link :=
        { s.link with state := .deselected, selected := false, cdout := .released } }
      if s.link.resetArmed then ended.holdReset .command else ended := by
  have hadd : addCount s.link.cutCount 0 = s.link.cutCount := by simp [addCount, hcuts]
  unfold State.endSelection
  split
  next b bytes hst => exact absurd hst (hstate b bytes)
  · simp only [State.updLink, hadd]

/-- Settles O4: the three kinds begin in the same way; the command reset after what the end of its response or of its
selection makes of the link. -/
theorem resetsBegin : Obligations.ResetsBegin := by
  intro s hidle
  obtain ⟨hpower, hpin, hcommand⟩ := State.resets_of_idle hidle
  refine ⟨⟨s.holdReset .power, ?_, ?_⟩, ⟨s.holdReset .pin, ?_, ?_⟩, fun harmed hselected =>
    ⟨fun fill rest hstate => ⟨s.finishResponse, ?_, ?_⟩, fun hstate hcuts => ⟨s.deselect [], ?_, ?_⟩⟩⟩
  · simp [exec, execPowerOnReset, hpower]
  · rw [State.holdReset_of_idle hidle]
    exact ⟨resetBegun_of rfl rfl (by simp), by simp [hcommand], s.beginReset_selected⟩
  · simp [exec, execResetPinAssert, hpin]
  · rw [State.holdReset_of_idle hidle]
    exact ⟨resetBegun_of rfl rfl (by simp), rfl, s.beginReset_selected⟩
  · simp [exec, execCommandResetBegin, hidle, harmed, hselected]
  · have hends : s.finishResponse = ({ s with link :=
        { s.link.carry (lastByte rest) with state := .drain } } : State).holdReset .command := by
      simp [State.finishResponse, hstate, State.endResponse, State.updLink, Link.carry, harmed]
    rw [hends]
    obtain ⟨hbegun, hresets, hlink⟩ :=
      resetBegun_command hidle (link := { s.link.carry (lastByte rest) with state := .drain }) rfl rfl
    exact ⟨hbegun, hresets, hlink.trans hselected⟩
  · simp [exec, execCommandResetBegin, hidle, harmed, hselected]
  · have hends : s.deselect [] = ({ s with link :=
        { s.link with state := .deselected, selected := false, cdout := .released } } : State).holdReset .command := by
      have : s.deselect [] = s.endSelection := by simp [State.deselect, State.clockAll, hidle]
      rw [this, State.endSelection_of_uncut hstate hcuts]
      simp [harmed]
    rw [hends]
    exact resetBegun_command hidle rfl rfl

/-! ## The end of a reset (R166, R167) -/

/-- The reset that holds alone ceases to hold: the part comes out of reset. -/
theorem State.releaseReset_last {s : State} {cause : ResetCause} (fin : ResetEnd)
    (halone : s.resets = { power := cause == .power, pin := cause == .pin, command := cause == .command }) :
    s.releaseReset cause fin = resetEnded s cause fin := by
  unfold State.releaseReset
  rw [halone]
  cases cause <;> rfl

/-- Settles O5: each kind, where it holds alone. -/
theorem resetsEnd : Obligations.ResetsEnd := by
  refine fun s fin => ⟨fun h => ?_, fun h => ?_, fun h => ?_⟩
  · rw [exec, execPowerOnRelease, if_pos (by rw [h]), State.releaseReset_last fin (by rw [h]; rfl)]
  · rw [exec, execResetPinNegate, if_pos (by rw [h]), State.releaseReset_last fin (by rw [h]; rfl)]
  · rw [exec, execCommandResetExpiry, if_pos (by rw [h]), State.releaseReset_last fin (by rw [h]; rfl)]

/-! ## Overlapping resets (R166) -/

theorem State.clockAll_of_fixed {s : State} (h : ∀ b, s.clockByte b = s) (bytes : List Byte) :
    s.clockAll bytes = s := by
  unfold State.clockAll
  induction bytes with
  | nil => rfl
  | cons b rest ih => rw [List.foldl_cons, h, ih]

/-- The link hears nothing in a reset (R167). -/
theorem State.clockAll_of_inReset {s : State} (h : s.inReset = true) (bytes : List Byte) : s.clockAll bytes = s :=
  State.clockAll_of_fixed (fun b => by rw [State.clockByte, if_pos h]) bytes

theorem State.holdReset_of_inReset {s : State} (h : s.inReset = true) (cause : ResetCause) :
    s.holdReset cause = { s with
      resets := match cause with
        | .power => { s.resets with power := true, command := false }
        | .pin => { s.resets with pin := true }
        | .command => { s.resets with command := true } } := by
  unfold State.holdReset
  rw [h]
  cases cause <;> rfl

theorem State.releaseReset_of_others {s : State} {cause : ResetCause} (fin : ResetEnd)
    (hothers : match cause with
      | .power => (s.resets.pin || s.resets.command) = true
      | .pin => (s.resets.power || s.resets.command) = true
      | .command => (s.resets.power || s.resets.pin) = true) :
    s.releaseReset cause fin = { s with
      resets := match cause with
        | .power => { s.resets with power := false }
        | .pin => { s.resets with pin := false }
        | .command => { s.resets with command := false } } := by
  unfold State.releaseReset
  cases cause <;> simp only [State.inReset, Bool.false_or, Bool.or_false] at hothers ⊢ <;> rw [if_pos hothers]

/-- Settles O6: a kind that begins or ends while another holds writes its hold alone. -/
theorem overlappingResetsMakeOne : Obligations.OverlappingResetsMakeOne := by
  intro s hreset
  refine ⟨fun h => ?_, fun h => ?_, fun fin h hothers => ?_, fun fin h hothers => ?_, fun fin h hothers => ?_,
    fun inp => ?_, fun i code args hi => ?_, fun adin => ?_⟩
  · rw [exec, execPowerOnReset, if_neg (by simp [h]), State.holdReset_of_inReset hreset]
  · rw [exec, execResetPinAssert, if_neg (by simp [h]), State.holdReset_of_inReset hreset]
  · rw [exec, execPowerOnRelease, if_pos h, State.releaseReset_of_others fin hothers]
  · rw [exec, execResetPinNegate, if_pos h, State.releaseReset_of_others fin hothers]
  · rw [exec, execCommandResetExpiry, if_pos h, State.releaseReset_of_others fin hothers]
  · rw [exec_blockStrobe, s.afterStrobe_of_inReset inp hreset]
  · rw [exec_request hi, State.clockMessage, State.clockAll_of_inReset hreset]
  · rw [exec, execSampleFrame, if_pos hreset]

end Sys2Proof.Machine
end

section
/-! The control link: selections, bytes clocked, responses, and the messages of the requests (R155 to R161). -/

namespace Sys2Proof.Machine

/-! ## The requests and their messages (R157, R161, R179) -/

theorem commandOfMessage_of_unknown {code : Byte} (h : code.toNat = 0 ∨ 30 ≤ code.toNat) (args : List Byte) :
    commandOfMessage code args = .unknownRequest code args := by
  unfold commandOfMessage
  split
  any_goals omega
  rfl

theorem unknownCode_iff (code : Byte) : unknownCode code = true ↔ code.toNat = 0 ∨ 30 ≤ code.toNat := by
  simp only [unknownCode, Bool.or_eq_true, beq_iff_eq, decide_eq_true_eq]
  exact or_congr_left ⟨fun h => by simp [h], fun h => BitVec.eq_of_toNat_eq (by simpa using h)⟩

/-- A well-formed request is the command of its own message. -/
theorem commandOfMessage_requestOf {i : Instr} {code : Byte} {args : List Byte} (hwf : WellFormed i = true)
    (h : requestOf i = some (code, args)) : commandOfMessage code args = i := by
  cases i with
  | unknownRequest code args =>
    cases h
    simp only [WellFormed, Bool.and_eq_true] at hwf
    exact commandOfMessage_of_unknown ((unknownCode_iff _).mp hwf.1) _
  | withdrawNormal args =>
    cases h
    simp only [WellFormed, Bool.and_eq_true, bne_iff_ne] at hwf
    exact if_neg hwf.2
  | withdrawForced args =>
    cases h
    simp only [WellFormed, beq_iff_eq] at hwf
    exact if_pos hwf
  | _ => cases h <;> rfl

/-- The command of a message has the message's code and arguments, and is well formed when they fit its length byte. -/
theorem requestOf_commandOfMessage (code : Byte) {args : List Byte} (hlen : args.length ≤ 255) :
    requestOf (commandOfMessage code args) = some (code, args) ∧ WellFormed (commandOfMessage code args) = true := by
  by_cases hunknown : code.toNat = 0 ∨ 30 ≤ code.toNat
  · rw [commandOfMessage_of_unknown hunknown]
    exact ⟨rfl, by simp [WellFormed, argsFit, hlen, (unknownCode_iff code).mpr hunknown]⟩
  · obtain ⟨n, hn⟩ : ∃ n, code.toNat = n := ⟨_, rfl⟩
    obtain rfl : code = BitVec.ofNat 8 n := BitVec.eq_of_toNat_eq (by simp [← hn])
    have hrange : 1 ≤ n ∧ n ≤ 29 := by omega
    obtain ⟨hlow, hhigh⟩ := hrange
    by_cases hforced : n = 6
    · subst hforced
      by_cases hmode : args = [1]
      · subst hmode; exact ⟨rfl, rfl⟩
      · have hcommand : commandOfMessage (BitVec.ofNat 8 6) args = .withdrawNormal args := if_neg hmode
        rw [hcommand]
        exact ⟨rfl, by simpa [WellFormed, argsFit, hlen] using hmode⟩
    · clear hn hunknown
      interval_cases n
      any_goals exact ⟨rfl, decide_eq_true hlen⟩
      exact absurd rfl hforced

/-- Settles O9: commands and messages determine each other, and a request runs by being clocked. -/
theorem requestsAreTheirMessages : Obligations.RequestsAreTheirMessages :=
  ⟨fun _ _ _ hwf h => ⟨commandOfMessage_requestOf hwf h, exec_request h⟩,
    fun code _ hlen => requestOf_commandOfMessage code hlen, fun _ => rfl⟩

/-- A request whose code names none is answered UNKNOWN (R157). -/
theorem decideRequest_of_unknown {code : Byte} (h : code.toNat = 0 ∨ 30 ≤ code.toNat) (args : List Byte) (s : State) :
    decideRequest code args s = answer .unknown s := by
  unfold decideRequest
  rw [commandOfMessage_of_unknown h]

theorem decideSetMinus_of_length {args : List Byte} (h : args.length ∉ [1, 2, 3, 4]) (s : State) :
    decideSetMinus args s = answer .badArgument s := by
  unfold decideSetMinus
  split
  next p bytes =>
    have hmany : 3 < (bytes.map tagOfByte).length := by
      simp only [List.length_cons, List.mem_cons, List.not_mem_nil, or_false, List.length_map] at h ⊢
      omega
    split
    · simp only [if_pos hmany]
    · rfl
  · rfl

/-- A request whose argument length does not fit is answered BAD_ARGUMENT (R157). -/
theorem decideRequest_of_length {code : Byte} {args : List Byte} (hlow : 1 ≤ code.toNat) (hhigh : code.toNat ≤ 29)
    (hlen : args.length ∉ argLengths code.toNat) (s : State) : decideRequest code args s = answer .badArgument s := by
  obtain ⟨n, hn⟩ : ∃ n, code.toNat = n := ⟨_, rfl⟩
  obtain rfl : code = BitVec.ofNat 8 n := BitVec.eq_of_toNat_eq (by simp [← hn])
  rw [hn] at hlow hhigh hlen
  clear hn
  match n, hlow, hhigh, hlen with
  | 18, _, _, hlen => exact decideSetMinus_of_length hlen s
  | 6, _, _, hlen =>
    have hmode : args ≠ [1] := by rintro rfl; simp [argLengths] at hlen
    rw [show BitVec.ofNat 8 6 = (6 : Byte) from rfl, decideRequest_withdrawNormal args s hmode]
    match args, hlen with
    | [], _ => rfl
    | [_], h => exact absurd (by simp [argLengths]) h
    | _ :: _ :: _, _ => rfl
  | 1, _, _, hlen | 2, _, _, hlen | 3, _, _, hlen | 5, _, _, hlen | 7, _, _, hlen | 8, _, _, hlen | 9, _, _, hlen =>
    match args, hlen with
    | [], h => exact absurd (by simp [argLengths]) h
    | _ :: _, _ => rfl
  | 4, _, _, hlen | 10, _, _, hlen | 12, _, _, hlen | 13, _, _, hlen | 15, _, _, hlen | 21, _, _, hlen
    | 22, _, _, hlen | 26, _, _, hlen | 27, _, _, hlen | 28, _, _, hlen | 29, _, _, hlen =>
    match args, hlen with
    | [], _ => rfl
    | [_], h => exact absurd (by simp [argLengths]) h
    | _ :: _ :: _, _ => rfl
  | 11, _, _, hlen | 19, _, _, hlen | 25, _, _, hlen =>
    match args, hlen with
    | [], _ => rfl
    | [_], _ => rfl
    | [_, _], h => exact absurd (by simp [argLengths]) h
    | _ :: _ :: _ :: _, _ => rfl
  | 17, _, _, hlen =>
    match args, hlen with
    | [], _ => rfl
    | [_], _ => rfl
    | [_, _], _ => rfl
    | [_, _, _], h => exact absurd (by simp [argLengths]) h
    | _ :: _ :: _ :: _ :: _, _ => rfl
  | 24, _, _, hlen =>
    match args, hlen with
    | [], _ => rfl
    | [_], _ => rfl
    | [_, _], _ => rfl
    | [_, _, _], _ => rfl
    | [_, _, _, _], h => exact absurd (by simp [argLengths]) h
    | _ :: _ :: _ :: _ :: _ :: _, _ => rfl
  | 16, _, _, hlen =>
    match args, hlen with
    | [], _ => rfl
    | [_], _ => rfl
    | [_, _], _ => rfl
    | [_, _, _], _ => rfl
    | [_, _, _, _], _ => rfl
    | [_, _, _, _, _], h => exact absurd (by simp [argLengths]) h
    | _ :: _ :: _ :: _ :: _ :: _ :: _, _ => rfl
  | 14, _, _, hlen =>
    match args, hlen with
    | [], _ => rfl
    | [_], _ => rfl
    | [_, _], _ => rfl
    | [_, _, _], _ => rfl
    | [_, _, _, _], _ => rfl
    | [_, _, _, _, _], _ => rfl
    | [_, _, _, _, _, _], h => exact absurd (by simp [argLengths]) h
    | _ :: _ :: _ :: _ :: _ :: _ :: _ :: _, _ => rfl
  | 20, _, _, hlen =>
    match args, hlen with
    | [], _ => rfl
    | [_], _ => rfl
    | [_, _], _ => rfl
    | [_, _, _], _ => rfl
    | [_, _, _, _], _ => rfl
    | [_, _, _, _, _], _ => rfl
    | [_, _, _, _, _, _], _ => rfl
    | [_, _, _, _, _, _, _], h => exact absurd (by simp [argLengths]) h
    | _ :: _ :: _ :: _ :: _ :: _ :: _ :: _ :: _, _ => rfl
  | 23, _, _, hlen =>
    match args, hlen with
    | [], _ => rfl
    | [_], _ => rfl
    | [_, _], _ => rfl
    | [_, _, _], _ => rfl
    | [_, _, _, _], _ => rfl
    | [_, _, _, _, _], _ => rfl
    | [_, _, _, _, _, _], _ => rfl
    | [_, _, _, _, _, _, _], _ => rfl
    | [_, _, _, _, _, _, _, _], h => exact absurd (by simp [argLengths]) h
    | _ :: _ :: _ :: _ :: _ :: _ :: _ :: _ :: _ :: _, _ => rfl
  | _ + 30, _, hhigh, _ => exact absurd hhigh (by omega)

/-- Settles O10: an unknown code and a wrong length decide alone, whatever the rest of the state. -/
theorem faultyRequestsChangeNothing : Obligations.FaultyRequestsChangeNothing := by
  refine fun s code args hs hlen => ⟨fun hunknown => ?_, fun hlow hhigh hwrong => ?_⟩
  · rw [exec_request rfl]
    exact request_answered s code args _ id _ _ hs hlen rfl (decideRequest_of_unknown hunknown args _)
  · rw [exec_request (requestOf_commandOfMessage code hlen).1]
    exact request_answered s code args _ id _ _ hs hlen rfl (decideRequest_of_length hlow hhigh hwrong _)

/-! ## Selections (R155, R156, R159) -/

theorem messageComplete_iff (bytes : List Byte) :
    messageComplete bytes = true ↔
      ∃ (code len : Byte) (args : List Byte), bytes = code :: len :: args ∧ len.toNat ≤ args.length := by
  match bytes with
  | [] => simp [messageComplete]
  | [_] => simp [messageComplete]
  | code :: len :: args =>
    simp only [messageComplete, decide_eq_true_eq]
    exact ⟨fun h => ⟨code, len, args, rfl, h⟩, by rintro ⟨_, _, _, heq, h⟩; cases heq; exact h⟩

theorem messageComplete_append {bytes : List Byte} (h : messageComplete bytes = true) (more : List Byte) :
    messageComplete (bytes ++ more) = true := by
  obtain ⟨code, len, args, rfl, hlen⟩ := (messageComplete_iff bytes).mp h
  exact (messageComplete_iff _).mpr ⟨code, len, args ++ more, rfl, by simp only [List.length_append]; omega⟩

theorem messageComplete_left {bytes more : List Byte} (h : messageComplete (bytes ++ more) = false) :
    messageComplete bytes = false := by
  rw [Bool.eq_false_iff] at h ⊢
  exact fun hcomplete => h (messageComplete_append hcomplete more)

theorem State.clockAll_cons (s : State) (b : Byte) (rest : List Byte) :
    s.clockAll (b :: rest) = (s.clockByte b).clockAll rest := rfl

theorem State.clockAll_append (s : State) (bytes more : List Byte) :
    s.clockAll (bytes ++ more) = (s.clockAll bytes).clockAll more := List.foldl_append

theorem State.holdReset_selected (s : State) (cause : ResetCause) :
    (s.holdReset cause).link.selected = s.link.selected := by
  obtain ⟨resets, h | h⟩ := s.holdReset_cases cause
  · rw [h]
  · rw [h]; exact s.beginReset_selected

theorem RequestChange.selected {s t : State} (hchange : RequestChange s t) : t.link.selected = s.link.selected := by
  cases hchange with
  | countsCleared => simp
  | closing _ => simp [State.enterClosing]
  | restored g => simp [State.restoreGroup]
  | _ => rfl

theorem State.endResponse_selected (s : State) : s.endResponse.link.selected = s.link.selected := by
  unfold State.endResponse
  dsimp only
  split
  · rw [State.holdReset_selected]; rfl
  · rfl

/-- The selection is CSEL_N's alone: no byte clocked moves it. -/
theorem State.clockByte_selected (s : State) (b : Byte) : (s.clockByte b).link.selected = s.link.selected := by
  unfold State.clockByte
  split
  · rfl
  · split
    · rfl
    · rfl
    · unfold State.holdByte
      dsimp only
      split
      · exact (decideRequest_change _ _ _).selected
      · rfl
    · rfl
    · rfl
    · rw [State.endResponse_selected]; rfl
    · exact s.endResponse_selected
    · rfl

theorem State.clockAll_selected (s : State) (bytes : List Byte) :
    (s.clockAll bytes).link.selected = s.link.selected := by
  induction bytes generalizing s with
  | nil => rfl
  | cons b rest ih => rw [State.clockAll_cons, ih, State.clockByte_selected]

theorem State.clockByte_deaf {s : State} (h : s.link.state = .deselected ∨ s.link.state = .barred) (b : Byte) :
    s.clockByte b = s := by
  unfold State.clockByte
  rcases h with h | h <;> simp [h]

theorem State.clockByte_drain {s : State} (hidle : s.inReset = false) (h : s.link.state = .drain) (b : Byte) :
    s.clockByte b = { s with link := { s.link with cdout := .driven (some 0) } } := by
  simp [State.clockByte, hidle, h, State.updLink, Link.carry]

/-- In DRAIN every byte clocked carries idle fill (R156). -/
theorem State.clockAll_drain {s : State} (hidle : s.inReset = false) (h : s.link.state = .drain) (b : Byte)
    (rest : List Byte) :
    s.clockAll (b :: rest) = { s with link := { s.link with cdout := .driven (some 0) } } := by
  rw [State.clockAll_cons, State.clockByte_drain hidle h]
  exact State.clockAll_of_fixed (s := { s with link := { s.link with cdout := .driven (some 0) } })
    (fun c => State.clockByte_drain (s := { s with link := { s.link with cdout := .driven (some 0) } }) hidle h c) rest

theorem State.clockByte_held {s : State} (hidle : s.inReset = false) {held : List Byte}
    (h : s.link.state = .request held) {b : Byte} (hopen : messageComplete (held ++ [b]) = false) :
    s.clockByte b =
      { s with
        freeCount := s.freeCount + 1
        link := { s.link with
          state := .request (held ++ [b]), cdout := .driven (some (Config.requestCdout s.freeCount)) } } := by
  simp [State.clockByte, hidle, h, State.holdByte, hopen, State.shiftIn, State.updLink]

/-- Bytes that complete no request are held (R157). -/
theorem State.clockAll_held {s : State} (hidle : s.inReset = false) {held : List Byte}
    (h : s.link.state = .request held) (b : Byte) (rest : List Byte)
    (hopen : messageComplete (held ++ b :: rest) = false) :
    ∃ last, s.clockAll (b :: rest) =
      { s with
        freeCount := s.freeCount + (rest.length + 1)
        link := { s.link with state := .request (held ++ b :: rest), cdout := .driven (some last) } } := by
  have hstep := State.clockByte_held hidle h (b := b)
    (messageComplete_left (more := rest) (by rwa [List.append_assoc]))
  induction rest generalizing s held b with
  | nil => exact ⟨_, hstep⟩
  | cons c rest ih =>
    have hopen' : messageComplete (held ++ [b] ++ c :: rest) = false := by rwa [List.append_assoc]
    have hnext := State.clockByte_held (s := s.clockByte b) (held := held ++ [b]) (b := c) (by rw [hstep]; exact hidle)
      (by rw [hstep]) (messageComplete_left (more := rest) (by rwa [List.append_assoc]))
    obtain ⟨last, hlast⟩ := ih (s := s.clockByte b) (by rw [hstep]; exact hidle) (by rw [hstep]) c hopen' hnext
    refine ⟨last, ?_⟩
    rw [State.clockAll_cons, hlast, hstep]
    simp [Nat.add_assoc, Nat.add_comm 1]

theorem State.deselect_nil_of_idle {s : State} (hidle : s.inReset = false) : s.deselect [] = s.endSelection := by
  simp [State.deselect, State.clockAll, hidle]

/-- Settles O7: the two commands move the link between the states of R156, and the bytes each carries are clocked one
after another. -/
theorem selectionsOpenAndClose : Obligations.SelectionsOpenAndClose := by
  refine ⟨fun s hidle => ⟨fun hoff => ?_, fun hon harmed cuts hcuts hbound => ?_, fun bytes hoff => ?_,
    fun bytes hon => ?_,
    fun bytes hdeaf => ?_, fun bytes hdrain hne => ?_, fun held bytes hheld hne hopen => ?_⟩, messageComplete_iff,
    fun s bytes hreset => ⟨State.clockAll_of_inReset hreset bytes, fun hoff => ?_, fun hon => ?_⟩⟩
  · simp [exec, execSelect, hoff, hidle, State.clockAll, State.updLink]
  · have hends : s.endSelection = { s with link :=
        { s.link with state := .deselected, selected := false, cdout := .released, cutCount := cuts } } := by
      have hzero : addCount s.link.cutCount 0 = s.link.cutCount := by simp [addCount, hbound]
      subst hcuts
      unfold State.endSelection
      split <;> simp_all [State.updLink, addCount]
    rw [exec, execDeselect, if_pos hon, State.deselect_nil_of_idle hidle, hends]
  · simp [exec, execSelect, hoff, hidle, State.updLink]
  · rw [exec, execDeselect, if_pos hon, exec, execDeselect, if_pos ((s.clockAll_selected bytes).trans hon)]
    rfl
  · exact State.clockAll_of_fixed (State.clockByte_deaf hdeaf) bytes
  · obtain ⟨b, rest, rfl⟩ := List.exists_cons_of_ne_nil hne
    exact State.clockAll_drain hidle hdrain b rest
  · obtain ⟨b, rest, rfl⟩ := List.exists_cons_of_ne_nil hne
    exact State.clockAll_held hidle hheld b rest hopen
  · simp [exec, execSelect, hoff, hreset, State.updLink]
  · rw [exec, execDeselect, if_pos hon, State.deselect, State.clockAll_of_inReset hreset]
    simp [hreset, State.updLink]

/-! ## Responses (R156, R158, R160) -/

/-- What CDOUT carries in RESPONSE, byte by byte: the idle fill, then the response (R156). -/
def responseStream (fill : Nat) (rest : List Byte) : List Byte := List.replicate fill 0 ++ rest

theorem responseStream_tail (fill : Nat) (rest : List Byte) :
    responseStream (fill - 1) (rest.drop (1 - fill)) = (responseStream fill rest).tail := by
  unfold responseStream
  cases fill with
  | zero => simp
  | succ n => simp [List.replicate_succ]

theorem responseStream_length (fill : Nat) (rest : List Byte) :
    (responseStream fill rest).length = fill + rest.length := by
  simp [responseStream]

/-- One byte of a response that is not its last. -/
theorem State.clockByte_response {s : State} (hidle : s.inReset = false) {fill : Nat} {rest : List Byte}
    (h : s.link.state = .response fill rest) (hne : rest ≠ []) (hmore : 1 < fill + rest.length) (b : Byte) :
    s.clockByte b =
      { s with link := { s.link with
          state := .response (fill - 1) (rest.drop (1 - fill))
          cdout := .driven (some ((responseStream fill rest).getD 0 0)) } } := by
  cases fill with
  | succ n => simp [State.clockByte, hidle, h, State.updLink, Link.carry, responseStream, List.replicate_succ]
  | zero =>
    match rest, hne, hmore with
    | [last], _, hmore => simp at hmore
    | next :: more :: rest, _, _ => simp [State.clockByte, hidle, h, State.updLink, Link.carry, responseStream]

/-- The last byte of a response: the link enters DRAIN (R156). -/
theorem State.clockByte_last {s : State} (hidle : s.inReset = false) (harmed : s.link.resetArmed = false) {last : Byte}
    (h : s.link.state = .response 0 [last]) (b : Byte) :
    s.clockByte b = { s with link := { s.link with state := .drain, cdout := .driven (some last) } } := by
  simp [State.clockByte, hidle, h, State.endResponse, State.updLink, Link.carry, harmed]

/-- A response as far as the byte before its last (R156). -/
theorem State.clockAll_response {s : State} (hidle : s.inReset = false) {fill : Nat} {rest : List Byte}
    (h : s.link.state = .response fill rest) (hne : rest ≠ []) (cdin : List Byte) (b : Byte)
    (hmore : cdin.length + 1 < fill + rest.length) :
    s.clockAll (cdin ++ [b]) =
      { s with link := { s.link with
          state := .response (fill - (cdin.length + 1)) (rest.drop (cdin.length + 1 - fill))
          cdout := .driven (some ((responseStream fill rest).getD cdin.length 0)) } } := by
  induction cdin generalizing s fill rest with
  | nil => simpa [State.clockAll] using State.clockByte_response hidle h hne hmore b
  | cons c cdin ih =>
    have hstep := State.clockByte_response hidle h hne (by omega) c
    simp only [List.length_cons] at hmore ⊢
    have hlen : (rest.drop (1 - fill)).length = rest.length - (1 - fill) := List.length_drop
    have hpos : 0 < rest.length := List.length_pos_iff.mpr hne
    have := ih (s := s.clockByte c) (fill := fill - 1) (rest := rest.drop (1 - fill)) (by rw [hstep]; exact hidle)
      (by rw [hstep]) (List.length_pos_iff.mp (by omega)) (by omega)
    rw [List.cons_append, State.clockAll_cons, this, hstep, responseStream_tail]
    have hfill : fill - 1 - (cdin.length + 1) = fill - (cdin.length + 1 + 1) := by omega
    have hdrop : 1 - fill + (cdin.length + 1 - (fill - 1)) = cdin.length + 1 + 1 - fill := by omega
    simp only [hfill, List.drop_drop, hdrop, List.getD_eq_getElem?_getD, List.getElem?_tail]

/-- A response to its last byte (R156). -/
theorem State.clockAll_response_last {s : State} (hidle : s.inReset = false) (harmed : s.link.resetArmed = false)
    {fill : Nat} {rest : List Byte} (h : s.link.state = .response fill rest) (hne : rest ≠ []) (cdin : List Byte)
      (b : Byte)
    (hlast : cdin.length + 1 = fill + rest.length) :
    s.clockAll (cdin ++ [b]) =
      { s with link := { s.link with state := .drain, cdout := .driven (some (rest.getLastD 0)) } } := by
  rcases List.eq_nil_or_concat cdin with rfl | ⟨init, c, rfl⟩
  · have hpos : 0 < rest.length := List.length_pos_iff.mpr hne
    simp only [List.length_nil] at hlast
    obtain rfl : fill = 0 := by omega
    obtain ⟨last, rfl⟩ := List.length_eq_one_iff.mp (show rest.length = 1 by omega)
    exact State.clockByte_last hidle harmed h b
  · have hpos : 0 < rest.length := List.length_pos_iff.mpr hne
    simp only [List.length_append, List.length_singleton, List.concat_eq_append] at hlast ⊢
    have hinit := State.clockAll_response hidle h hne init c (by omega)
    obtain ⟨last, htail⟩ := List.length_eq_one_iff.mp
      (show (rest.drop (init.length + 1 - fill)).length = 1 by rw [List.length_drop]; omega)
    have hgetLast : rest.getLastD 0 = last := by
      have : rest = rest.take (init.length + 1 - fill) ++ [last] := by rw [← htail, List.take_append_drop]
      rw [this]
      simp
    rw [State.clockAll_append, hinit]
    have hfill : fill - (init.length + 1) = 0 := by omega
    rw [htail, hfill, hgetLast]
    exact State.clockByte_last (s := { s with link := { s.link with
      state := .response 0 [last]
      cdout := .driven (some ((responseStream fill rest).getD init.length 0)) } }) hidle harmed rfl b

/-- After a whole response the link carries idle fill (R156). -/
theorem State.clockAll_response_over {s : State} (hidle : s.inReset = false) (harmed : s.link.resetArmed = false)
    {fill : Nat} {rest : List Byte} (h : s.link.state = .response fill rest) (hne : rest ≠ []) (cdin : List Byte)
      (b : Byte)
    (hover : fill + rest.length ≤ cdin.length) :
    s.clockAll (cdin ++ [b]) = { s with link := { s.link with state := .drain, cdout := .driven (some 0) } } := by
  have hpos : 0 < rest.length := List.length_pos_iff.mpr hne
  have hsplit : cdin ++ [b] = cdin.take (fill + rest.length) ++ (cdin.drop (fill + rest.length) ++ [b]) := by
    rw [← List.append_assoc, List.take_append_drop]
  have htake : (cdin.take (fill + rest.length)).length = fill + rest.length := by rw [List.length_take]; omega
  rcases List.eq_nil_or_concat (cdin.take (fill + rest.length)) with hnil | ⟨init, x, hinit⟩
  · rw [hnil] at htake; simp only [List.length_nil] at htake; omega
  · obtain ⟨c, more, hmore⟩ := List.exists_cons_of_ne_nil
      (show cdin.drop (fill + rest.length) ++ [b] ≠ [] by simp)
    rw [List.concat_eq_append] at hinit
    rw [hinit, List.length_append, List.length_singleton] at htake
    rw [hsplit, hinit, hmore, State.clockAll_append, State.clockAll_response_last hidle harmed h hne init x htake]
    exact State.clockAll_drain (s := { s with link :=
      { s.link with state := .drain, cdout := .driven (some (rest.getLastD 0)) } }) hidle rfl c more

/-- While a response is clocked out, and after it, only the link's state and CDOUT move (R156). -/
theorem State.clockAll_responding {s : State} (hidle : s.inReset = false) (harmed : s.link.resetArmed = false)
    {fill : Nat} {rest : List Byte} (h : s.link.state = .response fill rest) (hne : rest ≠ []) (cdin : List Byte) :
    ∃ state cdout, s.clockAll cdin = { s with link := { s.link with state := state, cdout := cdout } }
      ∧ ∀ b bytes, state ≠ .request (b :: bytes) := by
  rcases List.eq_nil_or_concat cdin with rfl | ⟨init, b, rfl⟩
  · exact ⟨.response fill rest, s.link.cdout, by rw [← h]; rfl, nofun⟩
  · rw [List.concat_eq_append]
    rcases Nat.lt_trichotomy (init.length + 1) (fill + rest.length) with hlt | heq | hgt
    · exact ⟨_, _, State.clockAll_response hidle h hne init b hlt, nofun⟩
    · exact ⟨_, _, State.clockAll_response_last hidle harmed h hne init b heq, nofun⟩
    · exact ⟨_, _, State.clockAll_response_over hidle harmed h hne init b (by omega), nofun⟩

theorem responseStream_getLast {fill : Nat} {rest : List Byte} (hne : rest ≠ []) {n : Nat}
    (hn : n + 1 = fill + rest.length) : (responseStream fill rest).getD n 0 = rest.getLastD 0 := by
  rcases List.eq_nil_or_concat rest with rfl | ⟨init, last, rfl⟩
  · exact absurd rfl hne
  · simp only [List.concat_eq_append, List.length_append, List.length_singleton] at hn ⊢
    have hplace : n = fill + init.length := by omega
    simp [responseStream, List.getD_eq_getElem?_getD, hplace]

/-- Settles O8: a response is its idle fill and its bytes, one for each byte clocked. -/
theorem responsesClockOut : Obligations.ResponsesClockOut := by
  refine ⟨fun s n => ⟨_, rfl⟩, fun s n change code data => ?_, fun s fill rest hidle harmed h hne => ?_⟩
  · exact ⟨Config.responseFill (change (s.received n)).freeCount % 4, resultByte code,
      Nat.le_of_lt_succ (Nat.mod_lt _ (by decide)), by cases code <;> simp [resultByte], rfl⟩
  · have hpos : 0 < rest.length := List.length_pos_iff.mpr hne
    have hend : exec .responseEnd s
        = .next { s with link := { s.link with state := .drain, cdout := .driven (some (rest.getLastD 0)) } } := by
      simp [exec, execResponseEnd, hidle, State.finishResponse, h, State.endResponse, State.updLink, Link.carry, harmed,
        lastByte]
    refine ⟨hend, fun cdin hlen => ?_, fun cdin b hlen => ?_, fun cdin b hmore => ?_, fun cdin b hover => ?_,
      fun cdin hon hcuts => ?_⟩
    · rcases List.eq_nil_or_concat cdin with rfl | ⟨init, b, rfl⟩
      · simp only [List.length_nil] at hlen; omega
      · rw [List.concat_eq_append] at hlen ⊢
        rw [hend, State.clockAll_response_last hidle harmed h hne init b (by simpa using hlen)]
    · rcases Nat.lt_or_ge (cdin.length + 1) (fill + rest.length) with hmore | hlast
      · rw [State.clockAll_response hidle h hne cdin b hmore]; rfl
      · have heq : cdin.length + 1 = fill + rest.length := by omega
        rw [State.clockAll_response_last hidle harmed h hne cdin b heq]
        exact congrArg (fun byte => Cdout.driven (some byte)) (responseStream_getLast hne heq).symm
    · exact State.clockAll_response hidle h hne cdin b hmore
    · exact State.clockAll_response_over hidle harmed h hne cdin b hover
    · obtain ⟨state, cdout, hclocked, hstate⟩ := State.clockAll_responding hidle harmed h hne cdin
      have hidle' : (s.clockAll cdin).inReset = false := by rw [hclocked]; exact hidle
      have hends : (s.clockAll cdin).endSelection =
          { s with link := { s.link with state := .deselected, selected := false, cdout := .released } } := by
        rw [State.endSelection_of_uncut (by rw [hclocked]; exact hstate) (by rw [hclocked]; exact hcuts), hclocked]
        simp [harmed]
      simp only [exec, execDeselect, if_pos hon, State.deselect, hidle', Bool.false_eq_true, if_false, hends]

end Sys2Proof.Machine
end

section
/-! The station requests (R142 to R152, R164, R165). -/

namespace Sys2Proof.Machine

/-! ## STATION RESET and CLEAR COUNTS (R164, R165) -/

theorem exec_stationReset (s : State) (hs : s.ready) :
    exec (.stationReset []) s =
      .next (s.answered 2 (fun u => { u with link := { u.link with resetArmed := true } }) .ok []) :=
  request_answered s 2 [] 2 _ _ _ hs (by decide) rfl rfl

/-- Settles O12: the answer arms the reset; the end of the response and the end of the selection each begin it. -/
theorem stationResetWaitsForItsResponse : Obligations.StationResetWaitsForItsResponse := by
  intro s hs hon
  refine ⟨_, exec_stationReset s hs, rfl, hs.1, ?_, ?_⟩
  all_goals
    generalize ht : s.answered 2 (fun u => { u with link := { u.link with resetArmed := true } }) .ok [] = t
    have hidle : t.inReset = false := ht ▸ hs.1
    have harmed : t.link.resetArmed = true := ht ▸ rfl
    have hselected : t.link.selected = true := ht ▸ hon
    have hresets : t.resets = s.resets := ht ▸ rfl
    obtain ⟨fill, rest, hstate⟩ : ∃ fill rest, t.link.state = .response fill rest := ht ▸ ⟨_, _, rfl⟩
  · have hends : t.finishResponse = ({ t with link :=
        { t.link.carry (lastByte rest) with state := .drain } } : State).holdReset .command := by
      simp [State.finishResponse, hstate, State.endResponse, State.updLink, Link.carry, harmed]
    obtain ⟨hbegun, hheld, -⟩ := resetBegun_command hidle
      (link := { t.link.carry (lastByte rest) with state := .drain }) rfl rfl
    refine ⟨t.finishResponse, by simp [exec, execResponseEnd, hidle], ?_, ?_⟩
    · rw [hends, hheld, hresets]
    · rw [hends]; exact hbegun.holds
  · have hends : ∃ link, t.endSelection = ({ t with link := link } : State).holdReset .command := by
      unfold State.endSelection
      dsimp only
      rw [if_pos harmed]
      exact ⟨_, rfl⟩
    obtain ⟨link, hends⟩ := hends
    refine ⟨t.endSelection, ?_, ?_, ?_⟩
    · rw [exec, execDeselect, if_pos hselected, State.deselect_nil_of_idle hidle]
    · rw [hends, State.holdReset_of_idle (s := { t with link := link }) hidle]
      simp [hresets]
    · rw [hends, State.holdReset_of_idle (s := { t with link := link }) hidle]
      simp [State.inReset]

/-- Settles O13: the three updates of CLEAR COUNTS are the three fields named. -/
theorem clearCountsZeroesTheCounts : Obligations.ClearCountsZeroesTheCounts := by
  intro s hs
  refine request_answered s 3 [] 2 _ _ _ hs (by decide) rfl ?_
  rw [decideRequest_clearCounts]
  simp only [decideClearCounts, answer, State.updLink, State.mapPorts, State.mapLanes, Lane.clearCounts,
    Port.clearCounts]

/-! ## WITHDRAW, REJOIN and LANE TEST (R142, R146, R151, R152) -/

theorem decideWithdrawNormal_refused {s : State} (h : s.station ≠ .running) :
    decideWithdrawNormal [0] s = answer .refused s := by
  unfold decideWithdrawNormal
  cases hst : s.station with
  | running => exact absurd hst h
  | _ => rfl

theorem State.active_iff (s : State) :
    s.active = true ↔ s.station = .running ∨ ∃ timer, s.station = .withdrawing timer := by
  unfold State.active
  cases s.station <;> simp

/-- The entry to CLOSING, field by field (R146, R58, R77, R99, R117, R131). -/
theorem State.enterClosing_silence (s : State) (cause : ClosingCause) :
    (s.enterClosing cause).silence =
      { s with
        station := .closing cause 0
        ports := tab fun p => (s.ports.get p).close
        mixes := tab fun m => { s.mixes.get m with live := false }
        output := Vector.replicate 8 Block.zero } := by
  simp only [State.enterClosing, State.silence, State.withStation, State.mapMixes, State.mapPorts, Port.close]

theorem Port.close_eq (q : Port) :
    q.close =
      if q.state = .outOfService ∨ q.state = .idle then { q with holder := none, queue := [], talkback := false }
      else { q with
        holder := none, queue := [], talkback := false
        state := .idle, peak := 0, activity := false, quiet := 0, armed := false } := by
  unfold Port.close
  split_ifs <;> rfl

/-- Settles O16: NORMAL writes the station state; FORCED is the entry to CLOSING. -/
theorem withdrawMovesTheStation : Obligations.WithdrawMovesTheStation := by
  refine fun s hs => ⟨fun hst => ?_, fun hst => ?_, fun mode hmode => ?_, fun hst => ?_, fun hst htimer => ?_⟩
  · refine request_answered s 6 [0] 3 _ _ _ hs (by decide) rfl ?_
    rw [decideRequest_withdrawNormal _ _ (by decide)]
    simp [decideWithdrawNormal, hst, answer, State.withStation]
  · refine request_answered s 6 [0] 3 _ _ _ hs (by decide) rfl ?_
    rw [decideRequest_withdrawNormal _ _ (by decide), decideWithdrawNormal_refused (by exact hst)]
    rfl
  · have hne : mode ≠ 1 := by rintro rfl; simp at hmode
    refine request_answered s 6 [mode] 3 _ _ _ hs (by simp) rfl ?_
    rw [decideRequest_withdrawNormal _ _ (by simpa using hne), decideWithdrawNormal, if_neg (by omega)]
    rfl
  · refine request_answered s 6 [1] 3 _ _ _ hs (by decide) rfl ?_
    have hactive : (s.received 3).active = true := (State.active_iff _).mpr hst
    have hdecided : decideWithdrawForced [1] (s.received 3) =
        answer .ok ((s.received 3).enterClosing .forced).silence := by
      simp [decideWithdrawForced, hactive]
    rw [decideRequest_withdrawForced]
    refine hdecided.trans ?_
    rw [answer, State.enterClosing_silence]
    simp only [Port.close_eq]
    rfl
  · refine request_answered s 6 [1] 3 _ _ _ hs (by decide) rfl ?_
    have hactive : ¬(s.received 3).active = true := by
      rw [State.active_iff]
      rintro (h | ⟨timer, h⟩)
      · exact hst h
      · exact htimer timer h
    have hdecided : decideWithdrawForced [1] (s.received 3) = answer .refused (s.received 3) := by
      simp [decideWithdrawForced, hactive]
    rw [decideRequest_withdrawForced]
    exact hdecided

/-- Settles O17: both requests ask for the same, and a refusal changes nothing. -/
theorem rejoinAndLaneTestStart : Obligations.RejoinAndLaneTestStart := by
  refine fun s hs => ⟨fun hst htimed => ⟨?_, ?_⟩, fun hrefused => ⟨?_, ?_⟩⟩
  · refine request_answered s 7 [] 2 _ _ _ hs (by decide) rfl ?_
    rw [decideRequest_rejoin, decideRejoin, if_pos ⟨hst, htimed⟩]
    rfl
  · refine request_answered s 8 [] 2 _ _ _ hs (by decide) rfl ?_
    rw [decideRequest_laneTest, decideLaneTest, if_pos ⟨hst, htimed⟩]
    rfl
  all_goals
    have hno : ¬((s.received 2).station = .withdrawn none ∧ (s.received 2).monitor.condition = .timed) := by
      rintro ⟨hst, htimed⟩
      rcases hrefused with h | h
      · exact h hst
      · exact absurd (htimed.symm.trans h) (by decide)
  · refine request_answered s 7 [] 2 _ _ _ hs (by decide) rfl ?_
    rw [decideRequest_rejoin, decideRejoin]
    exact if_neg hno
  · refine request_answered s 8 [] 2 _ _ _ hs (by decide) rfl ?_
    rw [decideRequest_laneTest, decideLaneTest]
    exact if_neg hno

end Sys2Proof.Machine
end

section
/-! The port requests (R54, R62 to R64, R68, R108 to R111, R129, R130, R135). -/

namespace Sys2Proof.Machine

/-! ## A request answered -/

/-- A request command is answered as its decision says, in the state in which its bytes have been shifted in. -/
theorem exec_answered {i : Instr} {code : Byte} {args : List Byte} {n : Nat} {change : State → State}
    {result : ResultCode} {data : List Byte} {s : State} (hs : s.ready) (hi : requestOf i = some (code, args))
    (hn : args.length + 2 = n) (hbound : n ≤ 257)
    (hd : decideRequest code args (s.received n) = (change (s.received n), { code := result, data := data })) :
    exec i s = .next (s.answered n change result data) := by
  subst hn
  rw [exec_request hi]
  exact request_answered s code args _ change result data hs (by omega) rfl hd

theorem State.updPort_congr {s : State} {p : Fin 8} {f g : Port → Port} (h : f (s.ports.get p) = g (s.ports.get p)) :
    s.updPort p f = s.updPort p g := by
  simp only [State.updPort, upd, h]

/-! ## SET STATE (R54, R55, R96, R97, R131) -/

theorem targetArg_of {c : Byte} {target : PortState}
    (h : c.toNat = 0 ∧ target = .idle ∨ c.toNat = 1 ∧ target = .screen ∨ c.toNat = 2 ∧ target = .hold
      ∨ c.toNat = 3 ∧ target = .air) : targetArg c = some target := by
  unfold targetArg
  rcases h with ⟨hc, rfl⟩ | ⟨hc, rfl⟩ | ⟨hc, rfl⟩ | ⟨hc, rfl⟩ <;> simp [hc]

theorem decideSetState_eq {b c : Byte} {p : Fin 8} {target : PortState} (hp : portArg b = some p)
    (ht : targetArg c = some target) (s : State) :
    decideSetState [b, c] s =
      if s.stationName = .closing ∨ s.stationName = .withdrawn then answer .refused s
      else if (s.ports.get p).state = .outOfService then answer .refused s
      else if (s.ports.get p).state = target then answer .ok s
      else answer .ok (s.updPort p fun q => q.changeState target) := by
  simp only [decideSetState, hp, ht]

theorem decideSetState_of_bad {b c : Byte} (h : portArg b = none ∨ targetArg c = none) (s : State) :
    decideSetState [b, c] s = answer .badArgument s := by
  rcases h with h | h <;> simp [decideSetState, h]

/-- A change of port state, field by field (R55, R96, R97, R131). -/
theorem Port.changeState_eq {q : Port} {target : PortState} (hnew : q.state ≠ target)
    (hserves : target ≠ .outOfService) :
    q.changeState target = { q with
      state := target
      holder := if target = .idle ∨ q.state = .air then none else q.holder
      queue := if target = .idle then []
        else match q.state, q.holder with
          | .air, some h => (h :: q.queue).take 4
          | _, _ => q.queue
      talkback := if target = .idle then false else q.talkback
      counter := if target = .hold then 0 else q.counter
      peak := if target = .idle ∨ q.state = .idle then 0 else q.peak
      activity := if target = .idle ∨ q.state = .idle then false else q.activity
      quiet := if target = .idle ∨ q.state = .idle then 0 else q.quiet
      armed := if target = .idle ∨ q.state = .idle then false else q.armed } := by
  cases target with
  | outOfService => exact absurd rfl hserves
  | idle => simp [Port.changeState, Port.emptyClaims, Port.resetMonitor]
  | air => cases hq : q.state <;> simp_all [Port.changeState, Port.resetMonitor]
  | screen =>
    cases hq : q.state <;> cases hh : q.holder <;> simp_all [Port.changeState, Port.resetMonitor, Port.leaveAir]
  | hold =>
    cases hq : q.state <;> cases hh : q.holder <;> simp_all [Port.changeState, Port.resetMonitor, Port.leaveAir]

/-- Settles O18: the decision in the order of R54, and a change of port state field by field. -/
theorem setStateChangesThePort : Obligations.SetStateChangesThePort := by
  intro s b c p target hs hb
  have hp := portArg_of b p hb
  refine ⟨fun hc => ?_, fun far hfar => ?_, fun htarget => ⟨fun hrefused => ?_, fun hclosing hwithdrawn hserves =>
    ⟨fun hsame => ?_, fun hnew => ?_⟩⟩⟩
  · exact exec_answered hs rfl rfl (by decide) (decideSetState_of_bad (.inr (targetArg_none c hc)) _)
  · exact exec_answered hs rfl rfl (by decide) (decideSetState_of_bad (.inl (portArg_none far hfar)) _)
  all_goals
    have ht := targetArg_of htarget
    refine exec_answered hs rfl rfl (by decide) ((decideSetState_eq hp ht _).trans ?_)
  · rcases hrefused with h | h | h <;> simp [h, answer]
  · have hout : target ≠ .outOfService := hsame ▸ hserves
    simp [hclosing, hwithdrawn, hsame, hout, answer]
  · have hout : target ≠ .outOfService := by rintro rfl; simp at htarget
    simp only [State.received_stationName, State.received_ports, hclosing, hwithdrawn, hserves, hnew, or_self, if_false,
      answer]
    exact congrArg (·, _) (State.updPort_congr (Port.changeState_eq hnew hout))

/-! ## PORT CLEAR and GROUP RESTORE (R62 to R64) -/

theorem Port.clear_eq (q : Port) :
    q.clear = { q with
      state := if q.state = .outOfService then .outOfService else .idle
      holder := none, queue := [], talkback := false, misses := 0, saturations := 0, missReported := false
      peak := 0, activity := false, quiet := 0, armed := false } := by
  unfold Port.clear Port.served
  cases hq : q.state <;>
    simp [hq, Port.changeState, Port.emptyClaims, Port.resetMonitor, Port.clearCounts]

/-- Settles O19: the clearing of a port, field by field. -/
theorem portClearKeepsSettings : Obligations.PortClearKeepsSettings := by
  refine fun s b hs => ⟨fun p hb => ?_, fun hb => ?_⟩
  · refine exec_answered hs rfl rfl (by decide) ?_
    rw [decideRequest_portClear, decidePortClear, portArg_of b p hb]
    exact congrArg (·, _) (State.updPort_congr (Port.clear_eq _))
  · refine exec_answered hs rfl rfl (by decide) ?_
    rw [decideRequest_portClear, decidePortClear, portArg_none b hb]
    rfl

theorem groupOfPort_eq_iff (p : Fin 8) (g : Group) : groupOfPort p = g ↔ decide (p.val < 4) = (g == .a) := by
  have hother : (Group.b == Group.a) = false := rfl
  unfold groupOfPort
  cases g <;> simp [hother]

theorem State.outOfService_portsOf (s : State) (g : Group) :
    s.outOfService (portsOf g) = ((List.finRange 8).filter fun p =>
      (decide (p.val < 4) == (g == .a)) && (s.ports.get p).state == .outOfService).length := by
  have hgroup : ∀ p, (groupOfPort p == g) = (decide (p.val < 4) == (g == .a)) := fun p => by
    rw [Bool.eq_iff_iff, beq_iff_eq, beq_iff_eq]
    exact groupOfPort_eq_iff p g
  simp only [State.outOfService, portsOf, List.filter_filter, hgroup, Bool.and_comm]

theorem State.level_eq (s : State) (g : Group) : s.level g = if g = .a then s.levelA else s.levelB := by
  cases g <;> rfl

theorem State.restoreGroup_eq (s : State) (g : Group) :
    s.restoreGroup g = { s with
      ports := tab fun p =>
        let q := s.ports.get p
        if (decide (p.val < 4) = (g == .a)) ∧ q.state = .outOfService then
          { q with state := .idle, holder := none, queue := [], talkback := false
                   peak := 0, activity := false, quiet := 0, armed := false }
        else q } := by
  simp only [State.restoreGroup, State.mapPorts, groupOfPort_eq_iff, Port.changeState, Port.emptyClaims,
    Port.resetMonitor]

/-- Settles O20: the two refusals of R62, and the ports of the group that are out of service put to IDLE. -/
theorem groupRestoreReturnsThePorts : Obligations.GroupRestoreReturnsThePorts := by
  refine fun s b hs => ⟨fun hb => ?_, fun g n hg hn => ?_⟩
  · refine exec_answered hs rfl rfl (by decide) ?_
    rw [decideRequest_groupRestore, decideGroupRestore, groupArg_none b hb]
    rfl
  · have harg : groupArg b = some g := by rcases hg with ⟨rfl, rfl⟩ | ⟨rfl, rfl⟩ <;> rfl
    rw [← State.outOfService_portsOf] at hn
    have hdecide : ∀ u : State, decideGroupRestore [b] u =
        if u.level g then answer .refused u
        else if u.outOfService (portsOf g) = 0 then answer .refused u
        else (u.restoreGroup g, { code := .ok, data := be1 (u.outOfService (portsOf g)) }) := fun u => by
      simp only [decideGroupRestore, harg]
    rw [← State.level_eq]
    refine ⟨fun hrefused => ?_, fun hlevel hsome => ?_⟩
    · refine exec_answered hs rfl rfl (by decide) ((hdecide _).trans ?_)
      rw [hn] at hrefused
      rcases hrefused with h | h <;> simp [h, answer]
    · refine exec_answered hs rfl rfl (by decide) ((hdecide _).trans ?_)
      rw [hn] at hsome ⊢
      simp only [State.received_level, hlevel, Bool.false_eq_true, if_false, State.received_outOfService, if_neg hsome,
        State.restoreGroup_eq, be1]

/-! ## SET MONITOR (R68) -/

theorem noticeArg_of {n : Byte} (h : n.toNat ≤ 1) : noticeArg n = some (n.toNat == 0) := by
  rcases (show n.toNat = 0 ∨ n.toNat = 1 by omega) with hn | hn <;> simp [noticeArg, hn]

theorem decideSetMonitor_of_bad {b c h2 h1 h0 n : Byte} (h : portArg b = none ∨ choiceArg c = none ∨ noticeArg n = none)
    (s : State) : decideSetMonitor [b, c, h2, h1, h0, n] s = answer .badArgument s := by
  simp only [decideSetMonitor]
  rcases h with h | h | h <;> rw [h]
  · cases portArg b <;> rfl
  · cases portArg b <;> cases choiceArg c <;> rfl

theorem decideSetMonitor_eq {b c h2 h1 h0 n : Byte} {p : Fin 8} {choice : ThresholdChoice} {notice : Bool}
    (hp : portArg b = some p) (hc : choiceArg c = some choice) (hn : noticeArg n = some notice) (s : State) :
    decideSetMonitor [b, c, h2, h1, h0, n] s =
      answer (okUnlessClamped (!(chosenThreshold choice (nat3 h2 h1 h0)).2))
        (s.updPort p fun q => { q with
          choice := choice, threshold := (chosenThreshold choice (nat3 h2 h1 h0)).1, notice := notice }) := by
  simp only [decideSetMonitor, hp, hc, hn]

theorem clampThreshold_eq (v : Nat) :
    clampThreshold v = if v = 0 then 1 else if 8388607 < v then 8388607 else v := by
  unfold clampThreshold clampTop
  split_ifs <;> omega

/-- Settles O21: a choice names its threshold, and SET alone can be clamped. -/
theorem setMonitorStoresTheThreshold : Obligations.SetMonitorStoresTheThreshold := by
  intro s b c h2 h1 h0 n p host hs hb hhost
  have hp := portArg_of b p hb
  refine ⟨fun choice threshold hn hchoice => ?_, fun hbad => ?_, fun far hfar => ?_⟩
  · have hchosen : choiceArg c = some choice ∧
        chosenThreshold choice host = (threshold, choice == .set && threshold != host) := by
      rcases hchoice with ⟨hc, rfl, rfl⟩ | ⟨hc, rfl, rfl⟩ | ⟨hc, rfl, rfl⟩ | ⟨hc, rfl, rfl⟩
      · exact ⟨by simp [choiceArg, hc], rfl⟩
      · exact ⟨by simp [choiceArg, hc], rfl⟩
      · exact ⟨by simp [choiceArg, hc], rfl⟩
      · exact ⟨by simp [choiceArg, hc], by rw [chosenThreshold, clampThreshold_eq]; rfl⟩
    refine exec_answered hs rfl rfl (by decide) ((decideSetMonitor_eq hp hchosen.1 (noticeArg_of hn) _).trans ?_)
    have hnat : nat3 h2 h1 h0 = host := hhost.symm
    rw [hnat, hchosen.2]
    by_cases hset : choice = .set ∧ threshold ≠ host
    · simp [hset, answer, okUnlessClamped]
    · rw [if_neg hset]
      rw [not_and_or, not_ne_iff] at hset
      rcases hset with h | h <;> simp [h, answer, okUnlessClamped]
  · refine exec_answered hs rfl rfl (by decide) (decideSetMonitor_of_bad (.inr ?_) _)
    exact hbad.imp (choiceArg_none c) (noticeArg_none n)
  · exact exec_answered hs rfl rfl (by decide) (decideSetMonitor_of_bad (.inl (portArg_none far hfar)) _)

/-! ## SET ENTRY (R108) -/

/-- A recipe argument names one of the three recipes. -/
theorem recipeArg_of {r : Byte} {name : PortState} {q : Port} {recipe : List RecipeEntry}
    (h : r.toNat = 0 ∧ name = .screen ∧ recipe = q.screenRecipe ∨ r.toNat = 1 ∧ name = .hold ∧ recipe = q.holdRecipe
      ∨ r.toNat = 2 ∧ name = .air ∧ recipe = q.airRecipe) :
    recipeArg r = some name ∧ q.recipeNamed name = recipe := by
  rcases h with ⟨hr, rfl, rfl⟩ | ⟨hr, rfl, rfl⟩ | ⟨hr, rfl, rfl⟩ <;> exact ⟨by simp [recipeArg, hr], rfl⟩

theorem okUnlessClamped_level (given : Nat) :
    okUnlessClamped (clampLevel given == given) = if given ≤ 32768 then .ok else .adjusted := by
  have hiff : (clampLevel given == given) = decide (given ≤ 32768) := by
    rw [Bool.eq_iff_iff, beq_iff_eq, decide_eq_true_iff]
    unfold clampLevel clampTop
    omega
  unfold okUnlessClamped
  rw [hiff]
  simp only [decide_eq_true_eq]

theorem decideSetEntry_of_bad {b r t g1 g0 : Byte} (h : portArg b = none ∨ recipeArg r = none) (s : State) :
    decideSetEntry [b, r, t, g1, g0] s = answer .badArgument s := by
  rcases h with h | h <;> simp [decideSetEntry, h]

theorem decideSetEntry_eq {b r : Byte} {p : Fin 8} {name : PortState} (hp : portArg b = some p)
    (hr : recipeArg r = some name) (t g1 g0 : Byte) (s : State) :
    decideSetEntry [b, r, t, g1, g0] s =
      if (tagOfByte t).kind ≠ .mix ∧ tagOfByte t ∈ s.minusSet p then answer .conflict s
      else if recipeNames ((s.ports.get p).recipeNamed name) (tagOfByte t) then
        answer (okUnlessClamped (clampLevel (nat2 g1 g0) == nat2 g1 g0)) (s.updPort p fun q =>
          q.setRecipe name (regain ((s.ports.get p).recipeNamed name) (tagOfByte t) (clampLevel (nat2 g1 g0))))
      else if 6 ≤ ((s.ports.get p).recipeNamed name).length then answer .full s
      else answer (okUnlessClamped (clampLevel (nat2 g1 g0) == nat2 g1 g0)) (s.updPort p fun q =>
        q.setRecipe name ((s.ports.get p).recipeNamed name
          ++ [{ tag := tagOfByte t, gain := clampLevel (nat2 g1 g0) }])) := by
  simp only [decideSetEntry, hp, hr]

theorem recipeNames_eq_false_iff (recipe : List RecipeEntry) (tag : Tag) :
    recipeNames recipe tag = false ↔ tag ∉ recipe.map (·.tag) := by
  rw [← recipeNames_eq_true_iff, Bool.not_eq_true]

/-- Settles O22: the decision in the order of R108. -/
theorem setEntryEditsTheRecipe : Obligations.SetEntryEditsTheRecipe := by
  intro s b r t g1 g0 p name given gain tag code recipe hs hb hrecipe htag hgiven hgain hcode
  obtain ⟨hr, hnamed⟩ := recipeArg_of hrecipe
  have hcode' : okUnlessClamped (clampLevel (nat2 g1 g0) == nat2 g1 g0) = code := by
    rw [okUnlessClamped_level, hcode, hgiven]; rfl
  have hgain' : clampLevel (nat2 g1 g0) = gain := by rw [hgain, hgiven]; rfl
  have hdecide := decideSetEntry_eq (portArg_of b p hb) hr t g1 g0 (s.received 7)
  rw [State.received_ports, State.received_minusSet, hnamed, ← htag, hcode', hgain'] at hdecide
  refine ⟨fun hconflict => ?_, fun hfree => ⟨fun hmem => ?_, fun hnew hfull => ?_, fun hnew hroom => ?_⟩, fun far =>
    ⟨fun hfar => ?_, fun hfar => ?_⟩⟩
  case refine_5 => exact exec_answered hs rfl rfl (by decide) (decideSetEntry_of_bad (.inl (portArg_none far hfar)) _)
  case refine_6 => exact exec_answered hs rfl rfl (by decide) (decideSetEntry_of_bad (.inr (recipeArg_none far hfar)) _)
  all_goals refine exec_answered hs rfl rfl (by decide) (hdecide.trans ?_)
  · rw [if_pos hconflict]; rfl
  all_goals rw [if_neg fun h => hfree.elim h.1 fun hmem => hmem h.2]
  · rw [if_pos ((recipeNames_eq_true_iff _ _).mpr hmem)]; rfl
  all_goals rw [(recipeNames_eq_false_iff _ _).mpr hnew]
  · rw [if_neg Bool.false_ne_true, if_pos hfull]; rfl
  · rw [if_neg Bool.false_ne_true, if_neg (Nat.not_le.mpr hroom)]; rfl

/-! ## SET MINUS (R110) -/

theorem firstPlaces_sublist (tags : List Tag) : (firstPlaces tags).Sublist tags := by
  induction tags with
  | nil => exact List.Sublist.refl _
  | cons t rest ih => exact (List.filter_sublist.trans ih).cons_cons t

theorem mem_firstPlaces (tags : List Tag) (t : Tag) : t ∈ firstPlaces tags ↔ t ∈ tags := by
  induction tags with
  | nil => rfl
  | cons u rest ih =>
    simp only [firstPlaces, List.mem_cons, List.mem_filter, ih, bne_iff_ne]
    by_cases h : t = u <;> simp [h]

/-- The first places keep the order of first places. -/
theorem firstPlaces_pairwise (tags : List Tag) :
    (firstPlaces tags).Pairwise fun t u => tags.idxOf t < tags.idxOf u := by
  induction tags with
  | nil => exact List.Pairwise.nil
  | cons a rest ih =>
    have hlater : ∀ u ∈ (firstPlaces rest).filter fun u => u != a, (a :: rest).idxOf u = rest.idxOf u + 1 :=
      fun u hu => by
      have hne : a ≠ u := fun h => absurd (List.mem_filter.mp hu).2 (by simp [h])
      exact List.idxOf_cons_ne rest hne
    rw [firstPlaces, List.pairwise_cons]
    refine ⟨fun u hu => by rw [List.idxOf_cons_self, hlater u hu]; exact Nat.succ_pos _, ?_⟩
    refine (ih.filter _).imp_of_mem fun ht hu h => ?_
    rw [hlater _ ht, hlater _ hu]
    exact Nat.succ_lt_succ h

/-- In a list without repetition whose members are in a relation in list order, an earlier place is such a pair. -/
theorem rel_of_idxOf_lt {l : List Tag} {R : Tag → Tag → Prop} (hl : l.Pairwise R) {t u : Tag} (hu : u ∈ l)
    (hlt : l.idxOf t < l.idxOf u) : R t u := by
  have hbound := List.idxOf_lt_length_of_mem hu
  have := List.pairwise_iff_getElem.mp hl _ _ (hlt.trans hbound) hbound hlt
  rwa [List.getElem_idxOf, List.getElem_idxOf] at this

theorem Port.namesDirectly_eq_true_iff (q : Port) (t : Tag) :
    q.namesDirectly t = true ↔
      t.kind ≠ .mix ∧ t ∈ (q.screenRecipe ++ q.holdRecipe ++ q.airRecipe).map (·.tag) := by
  simp only [Port.namesDirectly, Bool.and_eq_true, bne_iff_ne, Bool.or_eq_true, recipeNames_eq_true_iff,
    List.map_append,
    List.mem_append]

theorem decideSetMinus_eq {b : Byte} {p : Fin 8} (hp : portArg b = some p) {bytes : List Byte} (hfew : bytes.length ≤ 3)
    (s : State) :
    decideSetMinus (b :: bytes) s =
      if (bytes.map tagOfByte).any fun t => t.kind == .mix || t.station != s.stationNumber then answer .conflict s
      else if (bytes.map tagOfByte).any (s.ports.get p).namesDirectly then answer .conflict s
      else if (bytes.map tagOfByte).any fun t => (s.ports.get p).source == some t then answer .conflict s
      else answer .ok (s.updPort p fun q => { q with extras := storedExtras (s.portTag p) (bytes.map tagOfByte) }) := by
  have hlen : ¬3 < (bytes.map tagOfByte).length := by simpa using hfew
  simp only [decideSetMinus, hp, if_neg hlen]

/-- A tag that SET MINUS may not take as an extra of a port (R110). -/
def State.minusConflict (s : State) (p : Fin 8) (t : Tag) : Prop :=
  t.kind = .mix ∨ t.station ≠ s.stationNumber
    ∨ t ∈ ((s.ports.get p).screenRecipe ++ (s.ports.get p).holdRecipe ++ (s.ports.get p).airRecipe).map (·.tag)
    ∨ (s.ports.get p).source = some t

theorem decideSetMinus_of_conflict {b : Byte} {p : Fin 8} (hp : portArg b = some p) {bytes : List Byte}
    (hfew : bytes.length ≤ 3) {s : State} (h : ∃ t ∈ bytes.map tagOfByte, s.minusConflict p t) :
    decideSetMinus (b :: bytes) s = answer .conflict s := by
  rw [decideSetMinus_eq hp hfew]
  generalize bytes.map tagOfByte = tags at h
  obtain ⟨t, ht, h⟩ := h
  by_cases hforeign : tags.any (fun t => t.kind == .mix || t.station != s.stationNumber) = true
  · rw [if_pos hforeign]
  have hown : t.kind ≠ .mix ∧ t.station = s.stationNumber := by
    have := List.any_eq_false.mp (Bool.not_eq_true _ ▸ hforeign) t ht
    simpa [not_or] using this
  rw [if_neg hforeign]
  rcases h with h | h | h | h
  · exact absurd h hown.1
  · exact absurd hown.2 h
  · rw [if_pos (List.any_eq_true.mpr ⟨t, ht, (Port.namesDirectly_eq_true_iff _ _).mpr ⟨hown.1, h⟩⟩)]
  · rw [if_pos (c := (tags.any fun t => (s.ports.get p).source == some t) = true)
      (List.any_eq_true.mpr ⟨t, ht, by simp [h]⟩), ite_self]

theorem decideSetMinus_of_free {b : Byte} {p : Fin 8} (hp : portArg b = some p) {bytes : List Byte}
    (hfew : bytes.length ≤ 3) {s : State} (h : ∀ t ∈ bytes.map tagOfByte, ¬s.minusConflict p t) :
    decideSetMinus (b :: bytes) s =
      answer .ok (s.updPort p fun q => { q with extras := storedExtras (s.portTag p) (bytes.map tagOfByte) }) := by
  rw [decideSetMinus_eq hp hfew]
  generalize bytes.map tagOfByte = tags at h
  have hforeign : ¬tags.any (fun t => t.kind == .mix || t.station != s.stationNumber) = true := by
    rw [List.any_eq_true]
    rintro ⟨t, ht, hbad⟩
    rcases Bool.or_eq_true_iff.mp hbad with hk | hst
    · exact h t ht (.inl (beq_iff_eq.mp hk))
    · exact h t ht (.inr (.inl (bne_iff_ne.mp hst)))
  have hdirect : ¬tags.any (s.ports.get p).namesDirectly = true := by
    rw [List.any_eq_true]
    rintro ⟨t, ht, hbad⟩
    exact h t ht (.inr (.inr (.inl ((Port.namesDirectly_eq_true_iff _ _).mp hbad).2)))
  have hsource : ¬tags.any (fun t => (s.ports.get p).source == some t) = true := by
    rw [List.any_eq_true]
    rintro ⟨t, ht, hbad⟩
    exact h t ht (.inr (.inr (.inr (beq_iff_eq.mp hbad))))
  rw [if_neg hforeign, if_neg hdirect, if_neg hsource]

/-- Settles O23: the conflicts of R110, and the first places of the tags as the extras. -/
theorem setMinusReplacesTheExtras : Obligations.SetMinusReplacesTheExtras := by
  rintro s b p bytes tags hs hb rfl hfew
  have hp := portArg_of b p hb
  refine ⟨fun hconflict => ?_, fun hfree => ?_, fun far hfar => ?_⟩
  · exact exec_answered hs rfl rfl (by omega)
      (decideSetMinus_of_conflict (s := s.received (bytes.length + 3)) hp hfew hconflict)
  · refine ⟨storedExtras (s.portTag p) (bytes.map tagOfByte), (firstPlaces_nodup _).filter _,
      List.filter_sublist.trans (firstPlaces_sublist _), fun t => ?_, fun t _ u hu hlt => ?_, ?_⟩
    · simp [storedExtras, mem_firstPlaces]
    · exact rel_of_idxOf_lt ((firstPlaces_pairwise _).filter _) hu hlt
    · refine exec_answered hs rfl rfl (by omega)
        (decideSetMinus_of_free (s := s.received (bytes.length + 3)) hp hfew fun t ht h => ?_)
      obtain ⟨hkind, hstation, hentry, hsource⟩ := hfree t ht
      exact h.elim hkind fun h => h.elim (fun h => h hstation) fun h => h.elim hentry hsource
  · refine exec_answered hs rfl rfl (by omega) ?_
    rw [decideRequest_setMinus, decideSetMinus, portArg_none far hfar]
    rfl

/-! ## SET TALKBACK, TALKBACK ON and OFF (R129, R130) -/

theorem decideSetTalkback_eq {b c t : Byte} {p : Fin 8} {source : Option Tag} (hp : portArg b = some p)
    (hc : sourceArg c t = some source) (g1 g0 d1 d0 : Byte) (s : State) :
    decideSetTalkback [b, c, t, g1, g0, d1, d0] s =
      if s.sourceConflicts p source then answer .conflict s
      else
        answer (okUnlessClamped
            (clampLevel (nat2 g1 g0) == nat2 g1 g0 && clampDuck (nat2 d1 d0) == nat2 d1 d0))
          (s.updPort p fun q => { q with
            source := source, talkGain := clampLevel (nat2 g1 g0), duck := clampDuck (nat2 d1 d0) }) := by
  simp only [decideSetTalkback, hp, hc]

theorem decideSetTalkback_of_bad {b c t : Byte} (h : portArg b = none ∨ sourceArg c t = none) (g1 g0 d1 d0 : Byte)
    (s : State) : decideSetTalkback [b, c, t, g1, g0, d1, d0] s = answer .badArgument s := by
  rcases h with h | h <;> simp [decideSetTalkback, h]

theorem State.sourceConflicts_iff (s : State) (p : Fin 8) (source : Option Tag) :
    s.sourceConflicts p source = true ↔ ∃ tag, source = some tag ∧ (tag.kind = .mix ∨ tag ∈ s.minusSet p) := by
  cases source <;> simp [State.sourceConflicts]

theorem okUnlessClamped_cue (gain duck : Nat) :
    okUnlessClamped (clampLevel gain == gain && clampDuck duck == duck)
      = if gain ≤ 32768 ∧ duck ≤ 8192 then .ok else .adjusted := by
  have hiff : (clampLevel gain == gain && clampDuck duck == duck) = decide (gain ≤ 32768 ∧ duck ≤ 8192) := by
    rw [Bool.eq_iff_iff, Bool.and_eq_true, beq_iff_eq, beq_iff_eq, decide_eq_true_iff]
    unfold clampLevel clampDuck clampTop
    omega
  unfold okUnlessClamped
  rw [hiff]
  simp only [decide_eq_true_eq]

/-- Settles O24: one conflict, and three values stored at once. -/
theorem setTalkbackStoresTogether : Obligations.SetTalkbackStoresTogether := by
  rintro s b c t g1 g0 d1 d0 p source gain duck hs hb rfl rfl hsource
  have hp := portArg_of b p hb
  have hc : sourceArg c t = some source := by
    rcases hsource with ⟨h, rfl⟩ | ⟨h, rfl⟩ <;> simp [sourceArg, h]
  refine ⟨fun hconflict => ?_, fun hfree => ?_, fun far => ⟨fun hfar => ?_, fun hfar => ?_⟩⟩
  · refine exec_answered hs rfl rfl (by decide) ((decideSetTalkback_eq hp hc g1 g0 d1 d0 _).trans ?_)
    rw [if_pos (((s.received 9).sourceConflicts_iff p source).mpr hconflict)]
    rfl
  · refine exec_answered hs rfl rfl (by decide) ((decideSetTalkback_eq hp hc g1 g0 d1 d0 _).trans ?_)
    rw [if_neg (mt ((s.received 9).sourceConflicts_iff p source).mp fun ⟨tag, h, hbad⟩ =>
      hbad.elim (hfree tag h).1 (hfree tag h).2), okUnlessClamped_cue]
    rfl
  · exact exec_answered hs rfl rfl (by decide) (decideSetTalkback_of_bad (.inl (portArg_none far hfar)) g1 g0 d1 d0 _)
  · exact exec_answered hs rfl rfl (by decide) (decideSetTalkback_of_bad
      (.inr (sourceArg_none far t hfar)) g1 g0 d1 d0 _)

theorem Port.served_iff (q : Port) : q.served = true ↔ q.state = .screen ∨ q.state = .hold ∨ q.state = .air := by
  unfold Port.served
  cases q.state <;> simp

theorem decideTalkbackOn_eq {b : Byte} {p : Fin 8} (hp : portArg b = some p) (s : State) :
    decideTalkbackOn [b] s =
      if (s.ports.get p).served then answer .ok (s.updPort p fun q => { q with talkback := true })
      else answer .refused s := by
  simp only [decideTalkbackOn, hp]

/-- Settles O25: ON asks whether the port is served, OFF asks nothing. -/
theorem talkbackSwitches : Obligations.TalkbackSwitches := by
  refine fun s b hs => ⟨fun p hb => ⟨fun hserved => ?_, fun hout => ?_, ?_⟩, fun hb => ⟨?_, ?_⟩⟩
  · refine exec_answered hs rfl rfl (by decide) ((decideTalkbackOn_eq (portArg_of b p hb) _).trans ?_)
    rw [if_pos ((Port.served_iff ((s.received 3).ports.get p)).mpr hserved)]
    rfl
  · refine exec_answered hs rfl rfl (by decide) ((decideTalkbackOn_eq (portArg_of b p hb) _).trans ?_)
    have hidle : ¬((s.received 3).ports.get p).served = true := by
      rw [State.received_ports, Port.served_iff]
      rcases hout with h | h <;> simp [h]
    rw [if_neg hidle]
    rfl
  · refine exec_answered hs rfl rfl (by decide) ?_
    rw [decideRequest_talkbackOff, decideTalkbackOff, portArg_of b p hb]
    rfl
  · refine exec_answered hs rfl rfl (by decide) ?_
    rw [decideRequest_talkbackOn, decideTalkbackOn, portArg_none b hb]
    rfl
  · refine exec_answered hs rfl rfl (by decide) ?_
    rw [decideRequest_talkbackOff, decideTalkbackOff, portArg_none b hb]
    rfl

/-! ## SET PAD and SET CADENCE (R111, R135) -/

theorem clampPeriod_eq (v : Nat) : clampPeriod v = if v < 2 then 2 else if 30000 < v then 30000 else v := by
  unfold clampPeriod clampTop
  split_ifs <;> omega

theorem clampOnTime_eq (period v : Nat) : clampOnTime period v = if period ≤ v then period - 1 else v := by
  unfold clampOnTime
  split_ifs <;> omega

theorem clampAmplitude_eq (v : Nat) : clampAmplitude v = if 8388607 < v then 8388607 else v := by
  unfold clampAmplitude clampTop
  split_ifs <;> omega

theorem okUnlessClamped_pad (v : Nat) :
    okUnlessClamped (clampPad v == v) = if v ≤ 6 then .ok else .adjusted := by
  have hiff : (clampPad v == v) = decide (v ≤ 6) := by
    rw [Bool.eq_iff_iff, beq_iff_eq, decide_eq_true_iff]
    unfold clampPad clampTop
    omega
  unfold okUnlessClamped
  rw [hiff]
  simp only [decide_eq_true_eq]

/-- SET CADENCE is answered ADJUSTED exactly when one of its three values was clamped (R38, R135). -/
theorem okUnlessClamped_cadence (period onTime amplitude : Nat) :
    okUnlessClamped (clampPeriod period == period && clampOnTime (clampPeriod period) onTime == onTime
        && clampAmplitude amplitude == amplitude)
      = if period < 2 ∨ 30000 < period ∨ clampPeriod period ≤ onTime ∨ 8388607 < amplitude then .adjusted else .ok := by
  have hiff : (clampPeriod period == period && clampOnTime (clampPeriod period) onTime == onTime
      && clampAmplitude amplitude == amplitude)
      = !decide (period < 2 ∨ 30000 < period ∨ clampPeriod period ≤ onTime ∨ 8388607 < amplitude) := by
    have hpos := (clampPeriod_mem period).1
    rw [Bool.eq_iff_iff, Bool.and_eq_true, Bool.and_eq_true, beq_iff_eq, beq_iff_eq, beq_iff_eq, Bool.not_eq_true',
      decide_eq_false_iff_not, clampOnTime_eq, clampAmplitude_eq]
    have hperiod : clampPeriod period = period ↔ ¬(period < 2 ∨ 30000 < period) := by
      rw [clampPeriod_eq]
      split_ifs <;> omega
    split_ifs <;> omega
  unfold okUnlessClamped
  rw [hiff]
  simp only [Bool.not_eq_true', decide_eq_false_iff_not, ite_not]

/-- Settles O26: the clamps, and what each request stores. -/
theorem padAndCadenceAreClamped : Obligations.PadAndCadenceAreClamped := by
  refine ⟨fun s b k hs => ⟨fun p hb => ?_, fun hb => ?_⟩, ?_⟩
  · refine exec_answered hs rfl rfl (by decide) ?_
    rw [decideRequest_setPad, decideSetPad, portArg_of b p hb]
    simp only [okUnlessClamped_pad]
    rfl
  · refine exec_answered hs rfl rfl (by decide) ?_
    rw [decideRequest_setPad, decideSetPad, portArg_none b hb]
    rfl
  · rintro s b p1 p0 d1 d0 a2 a1 a0 period onTime amplitude hs hperiod honTime hamplitude
    have hp : nat2 p1 p0 = period := hperiod.symm
    have hd : nat2 d1 d0 = onTime := honTime.symm
    have ha : nat3 a2 a1 a0 = amplitude := hamplitude.symm
    refine ⟨fun p stored hb hstored => ?_, fun hb => ?_⟩
    · refine exec_answered hs rfl rfl (by decide) ?_
      rw [← clampPeriod_eq] at hstored
      rw [decideRequest_setCadence, decideSetCadence, portArg_of b p hb, hp, hd, ha, hstored]
      dsimp only
      rw [okUnlessClamped_cadence, clampOnTime_eq, clampAmplitude_eq]
      rfl
    · refine exec_answered hs rfl rfl (by decide) ?_
      rw [decideRequest_setCadence, decideSetCadence, portArg_none b hb]
      rfl

end Sys2Proof.Machine
end

section
/-! The mix requests and the removals (R72 to R75, R109). -/

namespace Sys2Proof.Machine

/-! ## SET TERM (R72) -/

theorem decideSetTerm_eq {b : Byte} {m : Fin 4} (hm : mixArg b = some m) (t c1 c0 : Byte) (s : State) :
    decideSetTerm [b, t, c1, c0] s =
      if (tagOfByte t).kind = .mix then answer .conflict s
      else if (s.mixes.get m).names (tagOfByte t) then
        answer (okUnlessClamped (clampLevel (nat2 c1 c0) == nat2 c1 c0))
          (s.updMix m fun y => y.setCoefficient (tagOfByte t) (clampLevel (nat2 c1 c0)))
      else if 48 ≤ (s.mixes.get m).terms.length then answer .full s
      else if (tagOfByte t).kind = .party ∧ 16 ≤ (s.mixes.get m).partyTerms then answer .full s
      else answer (okUnlessClamped (clampLevel (nat2 c1 c0) == nat2 c1 c0))
        (s.updMix m fun y => { y with terms := y.terms ++ [newTerm (tagOfByte t) (clampLevel (nat2 c1 c0))] }) := by
  simp only [decideSetTerm, hm]

theorem Mix.names_eq_false_iff (x : Mix) (tag : Tag) : x.names tag = false ↔ tag ∉ x.terms.map (·.tag) := by
  rw [← Mix.names_eq_true_iff, Bool.not_eq_true]

/-- Settles O27: the decision in the order of R72. -/
theorem setTermEditsTheMix : Obligations.SetTermEditsTheMix := by
  rintro s b t c1 c0 m given coefficient tag code x hs hb rfl hgiven hcoefficient hcode rfl
  have hcode' : okUnlessClamped (clampLevel (nat2 c1 c0) == nat2 c1 c0) = code := by
    rw [okUnlessClamped_level, hcode, hgiven]; rfl
  have hcoefficient' : clampLevel (nat2 c1 c0) = coefficient := by rw [hcoefficient, hgiven]; rfl
  have hdecide := decideSetTerm_eq (mixArg_of b m hb) t c1 c0 (s.received 6)
  rw [State.received_mixes, hcode', hcoefficient'] at hdecide
  refine ⟨fun hmix => ?_, fun hsource => ⟨fun hmem => ?_, fun hnew hfull => ?_, fun hnew hroom hparties => ?_⟩,
    fun far hfar => ?_⟩
  case refine_5 =>
    refine exec_answered hs rfl rfl (by decide) ?_
    rw [decideRequest_setTerm, decideSetTerm, mixArg_none far hfar]
    rfl
  all_goals refine exec_answered hs rfl rfl (by decide) (hdecide.trans ?_)
  · rw [if_pos hmix]; rfl
  all_goals rw [if_neg hsource]
  · rw [if_pos ((Mix.names_eq_true_iff _ _).mpr hmem)]; rfl
  all_goals rw [(Mix.names_eq_false_iff _ _).mpr hnew, if_neg Bool.false_ne_true]
  · rcases hfull with h | h
    · rw [if_pos h]; rfl
    · rw [if_pos (c := _ ∧ 16 ≤ Mix.partyTerms _) h, ite_self]; rfl
  · rw [if_neg (Nat.not_le.mpr hroom),
      if_neg (c := _ ∧ 16 ≤ Mix.partyTerms _) fun h => absurd (hparties h.1) (Nat.not_lt.mpr h.2)]
    rfl

/-! ## The removals (R73, R74, R109) -/

theorem decideRemoveEntry_eq {b r : Byte} {p : Fin 8} {name : PortState} (hp : portArg b = some p)
    (hr : recipeArg r = some name) (t : Byte) (s : State) :
    decideRemoveEntry [b, r, t] s =
      if recipeNames ((s.ports.get p).recipeNamed name) (tagOfByte t) then
        answer .ok (s.updPort p fun q =>
          q.setRecipe name (((s.ports.get p).recipeNamed name).filter fun e => e.tag != tagOfByte t))
      else answer .notFound s := by
  simp only [decideRemoveEntry, hp, hr]

theorem decideRemoveEntry_of_bad {b r : Byte} (h : portArg b = none ∨ recipeArg r = none) (t : Byte) (s : State) :
    decideRemoveEntry [b, r, t] s = answer .badArgument s := by
  rcases h with h | h <;> simp [decideRemoveEntry, h]

theorem decideRemoveTerm_eq {b : Byte} {m : Fin 4} (hm : mixArg b = some m) (t : Byte) (s : State) :
    decideRemoveTerm [b, t] s =
      if (s.mixes.get m).names (tagOfByte t) then
        answer .ok (s.updMix m fun y => { y with terms := y.terms.filter fun u => u.tag != tagOfByte t })
      else answer .notFound s := by
  simp only [decideRemoveTerm, hm]

theorem bne_eq_decide_ne (t u : Tag) : (t != u) = decide (t ≠ u) := by
  rw [Bool.eq_iff_iff, bne_iff_ne, decide_eq_true_iff]

/-- Settles O28: a removal filters its one list. -/
theorem removalsCloseTheGap : Obligations.RemovalsCloseTheGap := by
  intro s b r t hs
  refine ⟨fun p name recipe hb hrecipe => ?_, fun hbad => ?_, fun m hb => ?_, fun hb => ⟨?_, ?_⟩⟩
  · obtain ⟨hr, hnamed⟩ := recipeArg_of hrecipe
    have hdecide := decideRemoveEntry_eq (portArg_of b p hb) hr t (s.received 5)
    rw [State.received_ports, hnamed] at hdecide
    simp only [bne_eq_decide_ne] at hdecide
    refine ⟨fun hnew => ?_, fun hmem => ?_⟩
    · refine exec_answered hs rfl rfl (by decide) (hdecide.trans ?_)
      rw [if_neg (mt (recipeNames_eq_true_iff _ _).mp hnew)]
      rfl
    · refine exec_answered hs rfl rfl (by decide) (hdecide.trans ?_)
      rw [if_pos ((recipeNames_eq_true_iff _ _).mpr hmem)]
      rfl
  · exact exec_answered hs rfl rfl (by decide)
      (decideRemoveEntry_of_bad (hbad.imp (portArg_none b) (recipeArg_none r)) t _)
  · have hdecide := decideRemoveTerm_eq (mixArg_of b m hb) t (s.received 4)
    rw [State.received_mixes] at hdecide
    simp only [bne_eq_decide_ne] at hdecide
    refine ⟨fun hnew => ?_, fun hmem => ?_, ?_⟩
    · refine exec_answered hs rfl rfl (by decide) (hdecide.trans ?_)
      rw [if_neg (mt (Mix.names_eq_true_iff _ _).mp hnew)]
      rfl
    · refine exec_answered hs rfl rfl (by decide) (hdecide.trans ?_)
      rw [if_pos ((Mix.names_eq_true_iff _ _).mpr hmem)]
      rfl
    · refine exec_answered hs rfl rfl (by decide) ?_
      rw [decideRequest_clearMix, decideClearMix, mixArg_of b m hb]
      rfl
  · refine exec_answered hs rfl rfl (by decide) ?_
    rw [decideRequest_removeTerm, decideRemoveTerm, mixArg_none b hb]
    rfl
  · refine exec_answered hs rfl rfl (by decide) ?_
    rw [decideRequest_clearMix, decideClearMix, mixArg_none b hb]
    rfl

/-- Settles O29: each switch writes the one field. -/
theorem mixesSwitch : Obligations.MixesSwitch := by
  refine fun s b hs => ⟨fun m hb => ⟨?_, ?_⟩, fun hb => ⟨?_, ?_⟩⟩
  all_goals refine exec_answered hs rfl rfl (by decide) ?_
  · rw [decideRequest_mixOn, decideMixOn, mixArg_of b m hb]; rfl
  · rw [decideRequest_mixOff, decideMixOff, mixArg_of b m hb]; rfl
  · rw [decideRequest_mixOn, decideMixOn, mixArg_none b hb]; rfl
  · rw [decideRequest_mixOff, decideMixOff, mixArg_none b hb]; rfl

end Sys2Proof.Machine
end

section
/-! Data laid out in bytes: what stands at a place, and the records of READ EVENT (R171, R179). -/

namespace Sys2Proof.Machine

/-! ## Numbers in bytes (11, chapter head) -/

theorem nat2_be2 (n : Nat) : nat2 (BitVec.ofNat 8 (n / 256)) (BitVec.ofNat 8 n) = n % 65536 := by
  simp only [nat2, BitVec.toNat_ofNat]
  omega

theorem nat3_be3 (n : Nat) :
    nat3 (BitVec.ofNat 8 (n / 65536)) (BitVec.ofNat 8 (n / 256)) (BitVec.ofNat 8 n) = n % 16777216 := by
  simp only [nat3, BitVec.toNat_ofNat]
  omega

theorem nat4_be4 (n : Nat) :
    nat4 (BitVec.ofNat 8 (n / 16777216)) (BitVec.ofNat 8 (n / 65536))
        (BitVec.ofNat 8 (n / 256)) (BitVec.ofNat 8 n)
      = n % 4294967296 := by
  simp only [nat4, BitVec.toNat_ofNat]
  omega

@[simp] theorem be1_length (n : Nat) : (be1 n).length = 1 := rfl
@[simp] theorem be2_length (n : Nat) : (be2 n).length = 2 := rfl
@[simp] theorem be3_length (n : Nat) : (be3 n).length = 3 := rfl
@[simp] theorem be4_length (n : Nat) : (be4 n).length = 4 := rfl
@[simp] theorem flagByte_length (f : Bool) : (flagByte f).length = 1 := rfl

theorem optField_length {width : Nat} {field : Option (List Byte)}
    (h : ∀ bytes, field = some bytes → bytes.length = width) :
    (optField width field).length = 1 + width := by
  cases field with
  | none => simp [optField, Nat.add_comm]
  | some bytes => simp [optField, h bytes rfl, Nat.add_comm]

@[simp] theorem optTag_length (tag : Option Tag) : (optTag tag).length = 2 := by cases tag <;> rfl

/-! ## What stands at a place -/

/-- Some bytes stand in the data from a place on. -/
def holdsAt (data : List Byte) (start : Nat) (seg : List Byte) : Prop :=
  ∃ before after, data = before ++ (seg ++ after) ∧ before.length = start

theorem holdsAt_self (data : List Byte) : holdsAt data 0 data := ⟨[], [], by simp, rfl⟩

theorem holdsAt_append {data : List Byte} {start : Nat} {a b : List Byte} :
    holdsAt data start (a ++ b) ↔ holdsAt data start a ∧ holdsAt data (start + a.length) b := by
  constructor
  · rintro ⟨before, after, rfl, rfl⟩
    exact ⟨⟨before, b ++ after, by simp, rfl⟩, ⟨before ++ a, after, by simp, by simp⟩⟩
  · rintro ⟨⟨before, after, hdata, rfl⟩, ⟨before', after', hdata', hlen⟩⟩
    refine ⟨before, after', ?_, rfl⟩
    have hpre : before' = before ++ a := by
      have := congrArg (List.take (before.length + a.length)) (hdata.symm.trans hdata')
      rw [← hlen, List.take_left, hlen, ← List.append_assoc, ← List.length_append, List.take_left] at this
      exact this.symm
    rw [hdata', hpre, List.append_assoc, List.append_assoc]

theorem holdsAt_cons {data : List Byte} {start : Nat} {b : Byte} {rest : List Byte} :
    holdsAt data start (b :: rest) ↔ holdsAt data start [b] ∧ holdsAt data (start + 1) rest := by
  rw [← List.singleton_append, holdsAt_append]
  rfl

theorem holdsAt.byteAt_add {data : List Byte} {start : Nat} {seg : List Byte} (h : holdsAt data start seg) {i : Nat}
    (hi : i < seg.length) : byteAt data (start + i) = byteAt seg i := by
  obtain ⟨before, after, rfl, rfl⟩ := h
  unfold byteAt
  rw [List.getD_append_right _ _ _ _ (Nat.le_add_right _ _), Nat.add_sub_cancel_left, List.getD_append _ _ _ _ hi]

theorem holdsAt.byte {data : List Byte} {start : Nat} {b : Byte} (h : holdsAt data start [b]) : byteAt data start = b :=
  h.byteAt_add (i := 0) (by simp)

theorem holdsAt.be1 {data : List Byte} {start n : Nat} (h : holdsAt data start (be1 n)) :
    byteAt data start = BitVec.ofNat 8 n := h.byte

theorem holdsAt.be1_toNat {data : List Byte} {start n : Nat} (h : holdsAt data start (Machine.be1 n)) (hn : n < 256) :
    (byteAt data start).toNat = n := by
  rw [h.be1, BitVec.toNat_ofNat]
  exact Nat.mod_eq_of_lt hn

theorem holdsAt.flag {data : List Byte} {start : Nat} {f : Bool} (h : holdsAt data start (flagByte f)) :
    byteAt data start = if f then 1 else 0 := h.byte

theorem holdsAt.be2 {data : List Byte} {start n : Nat} (h : holdsAt data start (be2 n)) :
    nat2At data start = n % 65536 := by
  obtain ⟨hhigh, hlow⟩ := holdsAt_cons.mp h
  rw [nat2At, hhigh.byte, hlow.byte, nat2_be2]

theorem holdsAt.seq {data : List Byte} {start : Nat} {q : Seq} (h : holdsAt data start (Machine.be2 q.toNat)) :
    nat2At data start = q.toNat := by
  rw [h.be2]
  exact Nat.mod_eq_of_lt q.isLt

theorem holdsAt.be3 {data : List Byte} {start n : Nat} (h : holdsAt data start (be3 n)) :
    nat3 (byteAt data start) (byteAt data (start + 1)) (byteAt data (start + 2)) = n % 16777216 := by
  obtain ⟨hhigh, h⟩ := holdsAt_cons.mp h
  obtain ⟨hmid, hlow⟩ := holdsAt_cons.mp h
  rw [hhigh.byte, hmid.byte, hlow.byte, nat3_be3]

/-- The i-th of some items that are laid out in the same width. -/
theorem holdsAt.item {α : Type} {data : List Byte} {start width : Nat} {items : List α} {lay : α → List Byte}
    (h : holdsAt data start (items.flatMap lay)) (hwidth : ∀ x, (lay x).length = width) {i : Nat} {x : α}
    (hx : items[i]? = some x) : holdsAt data (start + width * i) (lay x) := by
  induction items generalizing start i with
  | nil => simp at hx
  | cons y rest ih =>
    rw [List.flatMap_cons, holdsAt_append, hwidth] at h
    cases i with
    | zero =>
      obtain rfl : y = x := by simpa using hx
      exact h.1
    | succ i =>
      have := ih h.2 (by simpa using hx)
      rwa [Nat.add_assoc, show width + width * i = width * (i + 1) by rw [Nat.mul_succ, Nat.add_comm]] at this

theorem flatMap_length {α : Type} {width : Nat} (items : List α) {lay : α → List Byte}
    (hwidth : ∀ x, (lay x).length = width) : (items.flatMap lay).length = width * items.length := by
  induction items with
  | nil => rfl
  | cons x rest ih =>
    rw [List.flatMap_cons, List.length_append, hwidth, ih, List.length_cons, Nat.mul_succ, Nat.add_comm]

theorem holdsAt.tag {data : List Byte} {start : Nat} {tag : Option Tag} (h : holdsAt data start (optTag tag)) :
    (byteAt data start, byteAt data (start + 1)) =
      match (generalizing := false) tag with | none => (0, 0) | some t => (1, tagByte t) := by
  cases tag with
  | none =>
    obtain ⟨hpresent, hfield⟩ := holdsAt_cons.mp h
    rw [hpresent.byte, hfield.byte]
  | some t =>
    obtain ⟨hpresent, hfield⟩ := holdsAt_cons.mp h
    rw [hpresent.byte, hfield.byte]

/-! ## Event records (R171, R179) -/

/-- A record laid out: kind, sequence, subject, and two bytes of detail. -/
theorem eventBytes_fields (event : Event) (sequence : Seq) {kind subject : Nat} {d0 d1 : Byte}
    (h : eventBytes ⟨event, sequence⟩ = be1 kind ++ be2 sequence.toNat ++ be1 subject ++ [d0, d1]) (hkind : kind < 256)
    (hsubject : subject < 256) :
    let data := eventBytes ⟨event, sequence⟩
    data.length = 6 ∧ nat2At data 1 = sequence.toNat
      ∧ ((byteAt data 0).toNat = kind ∧ (byteAt data 3).toNat = subject) ∧ byteAt data 4 = d0 ∧ byteAt data 5 = d1 := by
  intro data
  have hdata := holdsAt_self data
  replace h : data = be1 kind ++ be2 sequence.toNat ++ be1 subject ++ [d0, d1] := h
  rw [h, holdsAt_append, holdsAt_append, holdsAt_append] at hdata
  obtain ⟨⟨⟨hk, hseq⟩, hsub⟩, hdetail⟩ := hdata
  obtain ⟨hd0, hd1⟩ := holdsAt_cons.mp hdetail
  rw [← h] at hk hseq hsub hd0 hd1
  exact ⟨by rw [h]; rfl, hseq.seq, ⟨hk.be1_toNat hkind, hsub.be1_toNat hsubject⟩, hd0.byte, hd1.byte⟩

/-- The two bytes of a sequence as detail. -/
theorem detail_seq {data : List Byte} {q : Seq} (h4 : byteAt data 4 = BitVec.ofNat 8 (q.toNat / 256))
    (h5 : byteAt data 5 = BitVec.ofNat 8 q.toNat) : nat2At data 4 = q.toNat := by
  rw [nat2At, h4, h5, nat2_be2]
  exact Nat.mod_eq_of_lt q.isLt

theorem tagByte_toNat_lt (tag : Tag) : (tagByte tag).toNat < 256 := (tagByte tag).isLt

/-- Settles O14: the two answers of READ EVENT, and the six bytes of each kind of record. -/
theorem readEventTakesTheOldest : Obligations.ReadEventTakesTheOldest := by
  refine ⟨fun s hs => ⟨exec_readEvent_of_empty s hs, exec_readEvent_of_cons s hs⟩, fun r => ?_⟩
  obtain ⟨event, sequence⟩ := r
  dsimp only
  cases event with
  | lanePresent lane third =>
    obtain ⟨hlen, hseq, hhead, h4, h5⟩ :=
      eventBytes_fields (.lanePresent lane third) sequence (kind := 1) (subject := lane.val) rfl (by decide) (by omega)
    exact ⟨hlen, hseq, hhead, detail_seq h4 h5⟩
  | laneLost lane previous =>
    obtain ⟨hlen, hseq, hhead, h4, h5⟩ :=
      eventBytes_fields (.laneLost lane previous) sequence (kind := 2) (subject := lane.val) rfl (by decide) (by omega)
    exact ⟨hlen, hseq, hhead, detail_seq h4 h5⟩
  | laneWithdrawn lane previous =>
    obtain ⟨hlen, hseq, hhead, h4, h5⟩ :=
      eventBytes_fields (.laneWithdrawn lane previous) sequence (kind := 3) (subject := lane.val) rfl (by decide)
        (by omega)
    exact ⟨hlen, hseq, hhead, detail_seq h4 h5⟩
  | laneConflict lane cause =>
    obtain ⟨hlen, hseq, hhead, h4, h5⟩ :=
      eventBytes_fields (.laneConflict lane cause) sequence (kind := 4) (subject := lane.val) rfl (by decide) (by omega)
    exact ⟨hlen, hseq, hhead, by rw [h4]; cases cause <;> simp, h5⟩
  | strobeLost name =>
    obtain ⟨hlen, hseq, hhead, h4, h5⟩ :=
      eventBytes_fields (.strobeLost name) sequence (kind := 5) (subject := 0) rfl (by decide) (by decide)
    exact ⟨hlen, hseq, hhead, h5, by rw [h4]; cases name <;> simp [stationCode]⟩
  | strobeBack name =>
    obtain ⟨hlen, hseq, hhead, h4, h5⟩ :=
      eventBytes_fields (.strobeBack name) sequence (kind := 6) (subject := 0) rfl (by decide) (by decide)
    exact ⟨hlen, hseq, hhead, h5, by rw [h4]; cases name <;> simp [stationCode]⟩
  | stationRunning first =>
    obtain ⟨hlen, hseq, hhead, h4, h5⟩ :=
      eventBytes_fields (.stationRunning first) sequence (kind := 7) (subject := 0) rfl (by decide) (by decide)
    exact ⟨hlen, hseq, hhead, detail_seq h4 h5⟩
  | claimGained mix party =>
    obtain ⟨hlen, hseq, ⟨hkind, hsubject⟩, h4, h5⟩ :=
      eventBytes_fields (.claimGained mix party) sequence (kind := 8) (subject := (tagByte mix).toNat) rfl (by decide)
        (tagByte_toNat_lt mix)
    exact ⟨hlen, hseq, ⟨hkind, hsubject.trans (tagByte_toNat mix)⟩, h4, h5⟩
  | claimLost mix party entered =>
    obtain ⟨hlen, hseq, ⟨hkind, hsubject⟩, h4, h5⟩ :=
      eventBytes_fields (.claimLost mix party entered) sequence (kind := 9) (subject := (tagByte mix).toNat) rfl
        (by decide) (tagByte_toNat_lt mix)
    exact ⟨hlen, hseq, ⟨hkind, hsubject.trans (tagByte_toNat mix)⟩, h4,
      fun hne => by rw [h5]; cases entered <;> simp at hne ⊢⟩
  | claimDropped port mix =>
    obtain ⟨hlen, hseq, hhead, h4, h5⟩ :=
      eventBytes_fields (.claimDropped port mix) sequence (kind := 10) (subject := port.val) rfl (by decide) (by omega)
    exact ⟨hlen, hseq, hhead, h4, h5⟩
  | partyActive port was =>
    obtain ⟨hlen, hseq, hhead, h4, h5⟩ :=
      eventBytes_fields (.partyActive port was) sequence (kind := 11) (subject := port.val) rfl (by decide) (by omega)
    exact ⟨hlen, hseq, hhead, h5,
      fun hwas => by rw [h4]; rcases hwas with rfl | rfl <;> simp [portStateCode]⟩
  | cancelMiss port mix cause =>
    obtain ⟨hlen, hseq, hhead, h4, h5⟩ :=
      eventBytes_fields (.cancelMiss port mix cause) sequence (kind := 12) (subject := port.val) rfl (by decide)
        (by omega)
    exact ⟨hlen, hseq, hhead, h4, by rw [h5]; cases cause <;> simp⟩
  | groupFault group moved =>
    obtain ⟨hlen, hseq, hhead, h4, h5⟩ :=
      eventBytes_fields (.groupFault group moved) sequence (kind := 13) (subject := groupCode group) rfl (by decide)
        (by cases group <;> decide)
    exact ⟨hlen, hseq, by cases group <;> exact hhead, h4, h5⟩
  | groupClear group out =>
    obtain ⟨hlen, hseq, hhead, h4, h5⟩ :=
      eventBytes_fields (.groupClear group out) sequence (kind := 14) (subject := groupCode group) rfl (by decide)
        (by cases group <;> decide)
    exact ⟨hlen, hseq, by cases group <;> exact hhead, h4, h5⟩
  | withdrawDenied held =>
    obtain ⟨hlen, hseq, hhead, h4, h5⟩ :=
      eventBytes_fields (.withdrawDenied held) sequence (kind := 15) (subject := 0) rfl (by decide) (by decide)
    exact ⟨hlen, hseq, hhead, h4, h5⟩
  | withdrawDone cause finals =>
    obtain ⟨hlen, hseq, hhead, h4, h5⟩ :=
      eventBytes_fields (.withdrawDone cause finals) sequence (kind := 16) (subject := 0) rfl (by decide) (by decide)
    exact ⟨hlen, hseq, hhead, by rw [h4]; cases cause <;> simp [closingCode], h5⟩
  | testDone lane result matched =>
    obtain ⟨hlen, hseq, hhead, h4, h5⟩ :=
      eventBytes_fields (.testDone lane result matched) sequence (kind := 17) (subject := lane.val) rfl (by decide)
        (by omega)
    exact ⟨hlen, hseq, hhead, h5, by rw [h4]; cases result <;> simp⟩

end Sys2Proof.Machine
end

section
/-! The queries: the bytes of their answers, and their runs (R33, R34, R69, R76, R162, R163, R180). -/

namespace Sys2Proof.Machine

/-! ## Places and optional fields -/

theorem holdsAt_of_eq {data seg : List Byte} (h : data = seg) : holdsAt data 0 seg := h ▸ holdsAt_self data

theorem holdsAt.moved {data seg : List Byte} {i j : Nat} (h : holdsAt data i seg) (hij : i = j) : holdsAt data j seg :=
  hij ▸ h

theorem holdsAt.zeros2 {data : List Byte} {start : Nat} (h : holdsAt data start (List.replicate 2 0)) :
    nat2At data start = 0 := by
  obtain ⟨hhigh, hlow⟩ := holdsAt_cons.mp h
  rw [nat2At, hhigh.byte, hlow.byte]
  rfl

theorem holdsAt.absent {data : List Byte} {start width : Nat} (h : holdsAt data start (optField width none)) :
    byteAt data start = 0 ∧ holdsAt data (start + 1) (List.replicate width 0) := by
  obtain ⟨hpresence, hfield⟩ := holdsAt_cons.mp h
  exact ⟨hpresence.byte, hfield⟩

theorem holdsAt.present {data : List Byte} {start width : Nat} {bytes : List Byte}
    (h : holdsAt data start (optField width (some bytes))) :
    byteAt data start = 1 ∧ holdsAt data (start + 1) bytes := by
  obtain ⟨hpresence, hfield⟩ := holdsAt_cons.mp h
  exact ⟨hpresence.byte, hfield⟩

@[simp] theorem optField_none_length (width : Nat) : (optField width none).length = width + 1 := by simp [optField]
@[simp] theorem optField_some_length (width : Nat) (bytes : List Byte) :
    (optField width (some bytes)).length = bytes.length + 1 := by simp [optField]

/-! ## The codes of the tables -/

theorem stationCode_mem (name : StationName) :
    (name, stationCode name) ∈ [(StationName.starting, 0), (.running, 1), (.withdrawing, 2), (.closing, 3),
      (.withdrawn, 4),
      (.conflict, 5), (.untimed, 6)] := by
  cases name <;> decide

theorem portStateCode_mem (state : PortState) :
    (state, portStateCode state) ∈ [(PortState.idle, 0), (.screen, 1), (.hold, 2), (.air, 3), (.outOfService, 4)] := by
  cases state <;> decide

theorem stationCode_lt (name : StationName) : stationCode name < 256 := by cases name <;> decide
theorem portStateCode_lt (state : PortState) : portStateCode state < 256 := by cases state <;> decide
theorem choiceCode_lt (choice : ThresholdChoice) : choiceCode choice < 256 := by cases choice <;> decide
theorem resetCauseCode_lt (cause : ResetCause) : resetCauseCode cause < 256 := by cases cause <;> decide

/-! ## STATUS -/

/-- The optional fields of STATUS, each of one station state. -/
def Station.quietField : Station → Option (List Byte)
  | .starting (some q) _ => some (be1 q)
  | _ => none

def Station.timerField : Station → Option (List Byte)
  | .withdrawing t => some (be2 t)
  | _ => none

def Station.closingField : Station → Option (List Byte)
  | .closing cause finals => some (be1 (closingCode cause) ++ be1 finals)
  | _ => none

def Station.testField : Station → Option (List Byte)
  | .withdrawn (some t) => some (be1 t.sent ++ be1 t.judged ++ be1 t.missing ++ be1 t.differing)
  | _ => none

def Condition.code : Condition → Nat
  | .timed => 0
  | .lost => 1

theorem Station.quietField_length {st : Station} : (optField 1 st.quietField).length = 2 :=
  optField_length fun bytes h => by
    unfold Station.quietField at h
    split at h <;> cases h
    rfl

theorem Station.timerField_length {st : Station} : (optField 2 st.timerField).length = 3 :=
  optField_length fun bytes h => by
    unfold Station.timerField at h
    split at h <;> cases h
    rfl

theorem Station.closingField_length {st : Station} : (optField 2 st.closingField).length = 3 :=
  optField_length fun bytes h => by
    unfold Station.closingField at h
    split at h <;> cases h
    rfl

theorem Station.testField_length {st : Station} : (optField 4 st.testField).length = 5 :=
  optField_length fun bytes h => by
    unfold Station.testField at h
    split at h <;> cases h
    rfl

theorem statusData_eq (s : State) :
    statusData s =
      be1 (stationCode s.stationName) ++ be1 s.stationNumber.val ++ be2 s.sequence.toNat
        ++ be1 (resetCauseCode s.resetCause) ++ be1 (s.monitor.condition.code) ++ be1 s.echoMismatch
        ++ optField 1 s.station.quietField ++ optField 2 s.station.timerField ++ optField 2 s.station.closingField
        ++ optField 4 s.station.testField ++ be1 s.events.length ++ flagByte s.overflow ++ be2 s.link.cutCount := rfl

theorem quietField_at {data : List Byte} {start : Nat} {st : Station}
    (h : holdsAt data start (optField 1 st.quietField)) :
    (∃ quiet heard, st = .starting (some quiet) heard ∧ byteAt data start = 1
        ∧ byteAt data (start + 1) = BitVec.ofNat 8 quiet)
      ∨ (∀ quiet heard, st ≠ .starting (some quiet) heard) ∧ byteAt data start = 0 ∧ byteAt data (start + 1) = 0 := by
  by_cases hst : ∃ quiet heard, st = .starting (some quiet) heard
  · obtain ⟨quiet, heard, rfl⟩ := hst
    obtain ⟨hpresence, hfield⟩ := h.present
    exact .inl ⟨quiet, heard, rfl, hpresence, hfield.be1⟩
  · push Not at hst
    have hnone : st.quietField = none := by
      unfold Station.quietField
      split
      · exact absurd rfl (hst _ _)
      · rfl
    obtain ⟨hpresence, hfield⟩ := (hnone ▸ h).absent
    exact .inr ⟨hst, hpresence, hfield.byte⟩

theorem timerField_at {data : List Byte} {start : Nat} {st : Station}
    (h : holdsAt data start (optField 2 st.timerField)) :
    (∃ timer, st = .withdrawing timer ∧ byteAt data start = 1 ∧ nat2At data (start + 1) = timer % 65536)
      ∨ (∀ timer, st ≠ .withdrawing timer) ∧ byteAt data start = 0 ∧ nat2At data (start + 1) = 0 := by
  by_cases hst : ∃ timer, st = .withdrawing timer
  · obtain ⟨timer, rfl⟩ := hst
    obtain ⟨hpresence, hfield⟩ := h.present
    exact .inl ⟨timer, rfl, hpresence, hfield.be2⟩
  · push Not at hst
    have hnone : st.timerField = none := by
      unfold Station.timerField
      split
      · exact absurd rfl (hst _)
      · rfl
    obtain ⟨hpresence, hfield⟩ := (hnone ▸ h).absent
    exact .inr ⟨hst, hpresence, hfield.zeros2⟩

theorem closingField_at {data : List Byte} {start : Nat} {st : Station}
    (h : holdsAt data start (optField 2 st.closingField)) :
    (∃ cause finals, st = .closing cause finals ∧ byteAt data start = 1
        ∧ byteAt data (start + 1) = (if cause = .normal then 0 else 1)
        ∧ byteAt data (start + 1 + 1) = BitVec.ofNat 8 finals)
      ∨ (∀ cause finals, st ≠ .closing cause finals) ∧ byteAt data start = 0 ∧ nat2At data (start + 1) = 0 := by
  by_cases hst : ∃ cause finals, st = .closing cause finals
  · obtain ⟨cause, finals, rfl⟩ := hst
    obtain ⟨hpresence, hfield⟩ := h.present
    obtain ⟨hcause, hfinals⟩ := holdsAt_cons.mp hfield
    refine .inl ⟨cause, finals, rfl, hpresence, ?_, hfinals.be1⟩
    rw [hcause.byte]
    cases cause <;> rfl
  · push Not at hst
    have hnone : st.closingField = none := by
      unfold Station.closingField
      split
      · exact absurd rfl (hst _ _)
      · rfl
    obtain ⟨hpresence, hfield⟩ := (hnone ▸ h).absent
    exact .inr ⟨hst, hpresence, hfield.zeros2⟩

theorem testField_at {data : List Byte} {start : Nat} {st : Station}
    (h : holdsAt data start (optField 4 st.testField)) :
    (∃ test, st = .withdrawn (some test) ∧ byteAt data start = 1
        ∧ byteAt data (start + 1) = BitVec.ofNat 8 test.sent ∧ byteAt data (start + 1 + 1) = BitVec.ofNat 8 test.judged
        ∧ byteAt data (start + 1 + 1 + 1) = BitVec.ofNat 8 test.missing
        ∧ byteAt data (start + 1 + 1 + 1 + 1) = BitVec.ofNat 8 test.differing)
      ∨ (∀ test, st ≠ .withdrawn (some test)) ∧ byteAt data start = 0 ∧ nat2At data (start + 1) = 0
        ∧ nat2At data (start + 1 + 2) = 0 := by
  by_cases hst : ∃ test, st = .withdrawn (some test)
  · obtain ⟨test, rfl⟩ := hst
    obtain ⟨hpresence, hfield⟩ := h.present
    obtain ⟨hsent, hfield⟩ := holdsAt_cons.mp hfield
    obtain ⟨hjudged, hfield⟩ := holdsAt_cons.mp hfield
    obtain ⟨hmissing, hdiffering⟩ := holdsAt_cons.mp hfield
    exact .inl ⟨test, rfl, hpresence, hsent.be1, hjudged.be1, hmissing.be1, hdiffering.be1⟩
  · push Not at hst
    have hnone : st.testField = none := by
      unfold Station.testField
      split
      · exact absurd rfl (hst _)
      · rfl
    obtain ⟨hpresence, hfield⟩ := (hnone ▸ h).absent
    obtain ⟨hfirst, hsecond⟩ := (holdsAt_append (a := List.replicate 2 0) (b := List.replicate 2 0)).mp hfield
    exact .inr ⟨hst, hpresence, hfirst.zeros2, hsecond.zeros2⟩

/-- Where the fields of STATUS stand. -/
theorem statusData_layout {s : State} {data : List Byte} (hdata : data = statusData s) :
    data.length = 24
    ∧ holdsAt data 0 (be1 (stationCode s.stationName)) ∧ holdsAt data 1 (be1 s.stationNumber.val)
    ∧ holdsAt data 2 (be2 s.sequence.toNat) ∧ holdsAt data 4 (be1 (resetCauseCode s.resetCause))
    ∧ holdsAt data 5 (be1 (s.monitor.condition.code)) ∧ holdsAt data 6 (be1 s.echoMismatch)
    ∧ holdsAt data 7 (optField 1 s.station.quietField) ∧ holdsAt data 9 (optField 2 s.station.timerField)
    ∧ holdsAt data 12 (optField 2 s.station.closingField) ∧ holdsAt data 15 (optField 4 s.station.testField)
    ∧ holdsAt data 20 (be1 s.events.length) ∧ holdsAt data 21 (flagByte s.overflow)
    ∧ holdsAt data 22 (be2 s.link.cutCount) := by
  rw [statusData_eq] at hdata
  have hat := holdsAt_of_eq hdata
  simp only [holdsAt_append, List.length_append, be1_length, be2_length, flagByte_length, Station.quietField_length,
    Station.timerField_length, Station.closingField_length, Station.testField_length, Nat.reduceAdd, and_assoc] at hat
  refine ⟨?_, hat⟩
  rw [hdata]
  simp only [List.length_append, be1_length, be2_length, flagByte_length, Station.quietField_length,
    Station.timerField_length, Station.closingField_length, Station.testField_length]

/-! ## LANE STATS -/

/-- The fields of LANE STATS that depend on the receive state. -/
def Receive.code : Receive → Nat
  | .absent => 0
  | .acquiring _ _ => 1
  | .present _ => 2
  | .lapsed _ _ => 3

def Receive.previousField : Receive → Option (List Byte)
  | .absent => none
  | .acquiring p _ => some (be2 p.toNat)
  | .present p => some (be2 p.toNat)
  | .lapsed p _ => some (be2 p.toNat)

def Receive.tallyField : Receive → Option (List Byte)
  | .acquiring _ n => some (be1 n)
  | .lapsed _ n => some (be1 n)
  | _ => none

theorem Receive.previousField_length {r : Receive} : (optField 2 r.previousField).length = 3 := by cases r <;> rfl
theorem Receive.tallyField_length {r : Receive} : (optField 1 r.tallyField).length = 2 := by cases r <;> rfl

theorem laneStatsData_eq (lane : Lane) :
    laneStatsData lane =
      be1 lane.receive.code ++ optField 2 lane.receive.previousField ++ optField 1 lane.receive.tallyField
        ++ flagByte lane.finalMark ++ flagByte lane.withdrawing ++ be2 lane.good ++ be2 lane.checkFailures
        ++ be2 lane.stationMismatches ++ be2 lane.slips ++ be2 lane.testFrames := by
  unfold laneStatsData
  cases lane.receive <;> rfl

/-- Where the fields of LANE STATS stand. -/
theorem laneStatsData_layout {lane : Lane} {data : List Byte} (hdata : data = laneStatsData lane) :
    data.length = 18
    ∧ holdsAt data 0 (be1 lane.receive.code) ∧ holdsAt data 1 (optField 2 lane.receive.previousField)
    ∧ holdsAt data 4 (optField 1 lane.receive.tallyField) ∧ holdsAt data 6 (flagByte lane.finalMark)
    ∧ holdsAt data 7 (flagByte lane.withdrawing) ∧ holdsAt data 8 (be2 lane.good)
    ∧ holdsAt data 10 (be2 lane.checkFailures) ∧ holdsAt data 12 (be2 lane.stationMismatches)
    ∧ holdsAt data 14 (be2 lane.slips) ∧ holdsAt data 16 (be2 lane.testFrames) := by
  rw [laneStatsData_eq] at hdata
  have hat := holdsAt_of_eq hdata
  simp only [holdsAt_append, List.length_append, be1_length, be2_length, flagByte_length, Receive.previousField_length,
    Receive.tallyField_length, Nat.reduceAdd, and_assoc] at hat
  refine ⟨?_, hat⟩
  rw [hdata]
  simp only [List.length_append, be1_length, be2_length, flagByte_length, Receive.previousField_length,
    Receive.tallyField_length]

theorem holdsAt.absent_zeros {data : List Byte} {start : Nat} (h : holdsAt data start (optField 1 none)) :
    nat2At data start = 0 := h.zeros2

/-! ## DIRECTORY QUERY -/

/-- The six bytes with which the answers to DIRECTORY QUERY begin. -/
theorem entryHead_layout {data : List Byte} {kind : Nat} {e : Entry} {rest : List Byte}
    (hdata : data = be1 kind ++ be2 e.sequence.toNat ++ flagByte e.fresh ++ be2 e.age ++ rest) :
    byteAt data 0 = BitVec.ofNat 8 kind ∧ nat2At data 1 = e.sequence.toNat
      ∧ byteAt data 3 = (if e.fresh then 1 else 0) ∧ nat2At data 4 = e.age % 65536 ∧ holdsAt data 6 rest
      ∧ data.length = 6 + rest.length := by
  have hat := holdsAt_of_eq hdata
  simp only [holdsAt_append, List.length_append, be1_length, be2_length, flagByte_length, Nat.reduceAdd, and_assoc]
    at hat
  obtain ⟨hkind, hseq, hfresh, hage, hrest⟩ := hat
  exact ⟨hkind.be1, hseq.seq, hfresh.flag, hage.be2, hrest, by simp [hdata]; omega⟩

theorem entryData_party (e : Entry) {state : PortState} {activity : Bool} {holder : Option Tag} {count : Nat}
    (he : e.body = .party state activity holder count) :
    entryData e = be1 0 ++ be2 e.sequence.toNat ++ flagByte e.fresh ++ be2 e.age
      ++ (be1 (portStateCode state) ++ flagByte activity ++ optTag holder ++ be1 count) := by
  simp only [entryData, he, List.append_assoc]

theorem entryData_feed (e : Entry) (he : e.body = .feed) :
    entryData e = be1 1 ++ be2 e.sequence.toNat ++ flagByte e.fresh ++ be2 e.age ++ [] := by
  simp only [entryData, he, List.append_nil]

theorem entryData_mix (e : Entry) {r : CompRecord} (he : e.body = .mix r) :
    entryData e = be1 2 ++ be2 e.sequence.toNat ++ flagByte e.fresh ++ be2 e.age
      ++ (be1 r.channel.val ++ be1 r.terms.length ++ be1 r.stamps.length
        ++ r.stamps.flatMap (fun st => be1 st.1.val ++ be2 st.2.toNat)
        ++ r.terms.flatMap (fun t => tagByte t.1 :: be2 t.2) ++ flagByte r.clip) := by
  simp only [entryData, he, List.append_assoc]

/-- A tag and a two-byte value, as the lists of the answers lay them out. -/
theorem holdsAt.tagAndValue {data : List Byte} {start value : Nat} {tag : Tag}
    (h : holdsAt data start (tagByte tag :: Machine.be2 value)) :
    byteAt data start = tagByte tag ∧ nat2At data (start + 1) = value % 65536 := by
  obtain ⟨htag, hvalue⟩ := holdsAt_cons.mp h
  exact ⟨htag.byte, hvalue.be2⟩

theorem entryData_ofMix {e : Entry} {r : CompRecord} (he : e.body = .mix r) {data : List Byte}
    (hdata : data = entryData e) :
    data.length = 10 + 3 * r.stamps.length + 3 * r.terms.length ∧ byteAt data 0 = 2
      ∧ (byteAt data 6).toNat = r.channel.val ∧ byteAt data 7 = BitVec.ofNat 8 r.terms.length
      ∧ byteAt data 8 = BitVec.ofNat 8 r.stamps.length
      ∧ (∀ (i : Nat) (stamp : Fin 16 × Seq), r.stamps[i]? = some stamp →
        (byteAt data (9 + 3 * i)).toNat = stamp.1.val ∧ nat2At data (10 + 3 * i) = stamp.2.toNat)
      ∧ (∀ (i : Nat) (term : Tag × Nat), r.terms[i]? = some term →
        byteAt data (9 + 3 * r.stamps.length + 3 * i) = tagByte term.1
        ∧ nat2At data (10 + 3 * r.stamps.length + 3 * i) = term.2 % 65536)
      ∧ byteAt data (9 + 3 * r.stamps.length + 3 * r.terms.length) = (if r.clip then 1 else 0) := by
  obtain ⟨hkind, hseq, hfresh, hage, hbody, hlen⟩ := entryHead_layout (hdata.trans (entryData_mix e he))
  have hstamps := flatMap_length (width := 3) r.stamps (lay := fun st => be1 st.1.val ++ be2 st.2.toNat) fun _ => rfl
  have hterms := flatMap_length (width := 3) r.terms (lay := fun t => tagByte t.1 :: be2 t.2) fun _ => rfl
  simp only [holdsAt_append, List.length_append, be1_length, flagByte_length, hstamps, hterms, Nat.reduceAdd, and_assoc]
    at hbody hlen
  obtain ⟨hchannel, htermCount, hstampCount, hstampList, htermList, hclip⟩ := hbody
  refine ⟨by omega, hkind, hchannel.be1_toNat (by omega), htermCount.be1, hstampCount.be1, ?_, ?_, ?_⟩
  · intro i stamp hi
    obtain ⟨hlane, hsequence⟩ := holdsAt_append.mp (hstampList.item (width := 3) (fun _ => rfl) hi)
    exact ⟨hlane.be1_toNat (by omega), (hsequence.moved (by simp; omega)).seq⟩
  · intro i term hi
    obtain ⟨htag, hvalue⟩ := (htermList.item (width := 3) (fun _ => rfl) hi).tagAndValue
    rw [show 9 + 3 * r.stamps.length + 3 * i = 6 + (3 + 3 * r.stamps.length) + 3 * i by omega]
    exact ⟨htag, by rw [← hvalue]; congr 1; omega⟩
  · exact (hclip.moved (by omega)).flag

/-! ## MIX QUERY -/

/-- One term of MIX QUERY: tag, coefficient, claim status with its presence byte. -/
theorem holdsAt.term {data : List Byte} {start : Nat} {e : Term}
    (h : holdsAt data start (tagByte e.tag :: Machine.be2 e.coefficient
      ++ optField 1 (e.status.map fun st => Machine.be1 (claimCode st)))) :
    byteAt data start = tagByte e.tag ∧ nat2At data (start + 1) = e.coefficient % 65536
      ∧ (e.status, (byteAt data (start + 3)).toNat, (byteAt data (start + 4)).toNat)
          ∈ [(none, 0, 0), (some .held, 1, 0), (some .waiting, 1, 1), (some .unheard, 1, 2)] := by
  obtain ⟨hleft, hstatus⟩ := holdsAt_append.mp h
  obtain ⟨htag, hvalue⟩ := hleft.tagAndValue
  refine ⟨htag, hvalue, ?_⟩
  obtain ⟨tag, coefficient, status⟩ := e
  cases status with
  | none =>
    obtain ⟨hpresence, hfield⟩ := hstatus.absent
    rw [show byteAt data (start + 3) = 0 from hpresence, show byteAt data (start + 4) = 0 from hfield.byte]
    exact List.mem_cons_self
  | some st =>
    obtain ⟨hpresence, hfield⟩ := hstatus.present
    rw [show byteAt data (start + 3) = 1 from hpresence,
      show byteAt data (start + 4) = BitVec.ofNat 8 (claimCode st) from hfield.be1]
    cases st <;> simp [claimCode]

theorem mixData_layout {x : Mix} {data : List Byte} (hdata : data = mixData x) :
    data.length = 5 + 5 * x.terms.length
    ∧ byteAt data 0 = (if x.live then 1 else 0) ∧ byteAt data 1 = BitVec.ofNat 8 x.terms.length
    ∧ byteAt data 2 = BitVec.ofNat 8 (x.terms.filter fun e => e.tag.kind == .party).length
    ∧ byteAt data 3 = BitVec.ofNat 8 x.lastIncluded ∧ byteAt data 4 = (if x.lastClip then 1 else 0)
    ∧ ∀ (i : Nat) (e : Term), x.terms[i]? = some e →
      byteAt data (5 + 5 * i) = tagByte e.tag ∧ nat2At data (6 + 5 * i) = e.coefficient % 65536
      ∧ (e.status, (byteAt data (8 + 5 * i)).toNat, (byteAt data (9 + 5 * i)).toNat)
          ∈ [(none, 0, 0), (some .held, 1, 0), (some .waiting, 1, 1), (some .unheard, 1, 2)] := by
  have hwidth : ∀ t : Term, (tagByte t.tag :: be2 t.coefficient
      ++ optField 1 (t.status.map fun st => be1 (claimCode st))).length = 5 := by
    intro t
    cases hst : t.status <;> simp
  unfold mixData at hdata
  have hat := holdsAt_of_eq hdata
  simp only [holdsAt_append, List.length_append, be1_length, flagByte_length, Nat.reduceAdd, and_assoc] at hat
  obtain ⟨hlive, hcount, hparties, hincluded, hclip, hterms⟩ := hat
  refine ⟨?_, hlive.flag, hcount.be1, hparties.be1, hincluded.be1, hclip.flag, ?_⟩
  · rw [hdata, List.length_append, flatMap_length _ hwidth]
    simp only [List.length_append, be1_length, flagByte_length]
  · intro i e hi
    obtain ⟨htag, hvalue, hstatus⟩ := (hterms.item hwidth hi).term
    rw [show 6 + 5 * i = 5 + 5 * i + 1 by omega, show 8 + 5 * i = 5 + 5 * i + 3 by omega,
      show 9 + 5 * i = 5 + 5 * i + 4 by omega]
    exact ⟨htag, hvalue, hstatus⟩

/-! ## PORT QUERY -/

theorem recipeData_length (recipe : List RecipeEntry) : (recipeData recipe).length = 1 + 3 * recipe.length := by
  rw [recipeData, List.length_append, be1_length, flatMap_length (width := 3) _ fun _ => rfl]

/-- A list of tags laid out. -/
theorem holdsAt.tags {data : List Byte} {start : Nat} {tags : List Tag} (h : holdsAt data start (tags.map tagByte))
    {i : Nat} {tag : Tag} (hi : tags[i]? = some tag) : byteAt data (start + i) = tagByte tag := by
  rw [h.byteAt_add (by simpa using (List.getElem?_eq_some_iff.mp hi).1), byteAt, List.getD_eq_getElem?_getD,
    List.getElem?_map, hi]
  rfl

/-- A recipe laid out. -/
theorem holdsAt.recipe {data : List Byte} {start : Nat} {recipe : List RecipeEntry}
    (h : holdsAt data start (recipeData recipe)) :
    byteAt data start = BitVec.ofNat 8 recipe.length
      ∧ ∀ (i : Nat) (e : RecipeEntry), recipe[i]? = some e →
        byteAt data (start + 1 + 3 * i) = tagByte e.tag ∧ nat2At data (start + 2 + 3 * i) = e.gain % 65536 := by
  obtain ⟨hcount, hentries⟩ := holdsAt_append.mp h
  refine ⟨hcount.be1, fun i e hi => ?_⟩
  obtain ⟨htag, hvalue⟩ := (hentries.item (width := 3) (fun _ => rfl) hi).tagAndValue
  exact ⟨htag, by rw [← hvalue]; congr 1; simp; omega⟩

/-- The parts of PORT QUERY: what stands before the lists, the lists, and what stands behind them. -/
def Port.headData (q : Port) (group : Nat) (level : Bool) : List Byte :=
  be1 (portStateCode q.state) ++ be1 group ++ be1 (choiceCode q.choice) ++ be3 q.threshold ++ flagByte q.notice
    ++ be3 q.peak ++ flagByte q.activity ++ be2 q.quiet ++ flagByte q.armed ++ flagByte level ++ optTag q.holder

def Port.listData (q : Port) (own : Tag) : List Byte :=
  be1 q.queue.length ++ q.queue.map tagByte ++ recipeData q.screenRecipe ++ recipeData q.holdRecipe
    ++ recipeData q.airRecipe ++ be1 (1 + q.extras.length) ++ [tagByte own] ++ q.extras.map tagByte

def Port.tailData (q : Port) : List Byte :=
  be1 q.pad ++ be2 q.misses ++ be2 q.saturations ++ flagByte q.missReported ++ optTag q.source ++ be2 q.talkGain
    ++ be2 q.duck ++ flagByte q.talkback ++ be2 q.period ++ be2 q.onTime ++ be3 q.amplitude ++ be2 q.counter

theorem Port.headData_length (q : Port) (group : Nat) (level : Bool) : (q.headData group level).length = 17 := by
  simp [Port.headData]

theorem Port.tailData_length (q : Port) : q.tailData.length = 22 := by simp [Port.tailData]

theorem Port.listData_length (q : Port) (own : Tag) :
    (q.listData own).length = 6 + q.queue.length + 3 * q.screenRecipe.length + 3 * q.holdRecipe.length
      + 3 * q.airRecipe.length + q.extras.length := by
  simp only [Port.listData, List.length_append, be1_length, List.length_map, recipeData_length, List.length_singleton]
  omega

theorem State.minusSet_length (s : State) (p : Fin 8) : (s.minusSet p).length = 1 + (s.ports.get p).extras.length := by
  simp only [State.minusSet, List.length_cons, Nat.add_comm]

theorem State.minusSet_tagBytes (s : State) (p : Fin 8) :
    (s.minusSet p).map tagByte = [tagByte (s.portTag p)] ++ (s.ports.get p).extras.map tagByte := by
  simp only [State.minusSet, List.map_cons, List.singleton_append]

theorem portData_eq (s : State) (p : Fin 8) :
    portData s p = (s.ports.get p).headData (groupCode (groupOfPort p)) (s.level (groupOfPort p))
      ++ (s.ports.get p).listData (s.portTag p) ++ (s.ports.get p).tailData := by
  unfold portData
  dsimp only
  rw [s.minusSet_length, s.minusSet_tagBytes]
  generalize s.ports.get p = q
  simp only [Port.headData, Port.listData, Port.tailData, List.append_assoc]

theorem Port.headData_layout {q : Port} {group : Nat} {level : Bool} {data : List Byte}
    (h : holdsAt data 0 (q.headData group level)) :
    holdsAt data 0 (be1 (portStateCode q.state)) ∧ holdsAt data 1 (be1 group)
    ∧ holdsAt data 2 (be1 (choiceCode q.choice)) ∧ holdsAt data 3 (be3 q.threshold) ∧ holdsAt data 6 (flagByte q.notice)
    ∧ holdsAt data 7 (be3 q.peak) ∧ holdsAt data 10 (flagByte q.activity) ∧ holdsAt data 11 (be2 q.quiet)
    ∧ holdsAt data 13 (flagByte q.armed) ∧ holdsAt data 14 (flagByte level) ∧ holdsAt data 15 (optTag q.holder) := by
  simpa only [Port.headData, holdsAt_append, List.length_append, be1_length, be2_length, be3_length, flagByte_length,
    Nat.reduceAdd, and_assoc] using h

theorem Port.tailData_layout {q : Port} {data : List Byte} {pad : Nat} (h : holdsAt data pad q.tailData) :
    holdsAt data pad (be1 q.pad) ∧ holdsAt data (pad + 1) (be2 q.misses) ∧ holdsAt data (pad + 3) (be2 q.saturations)
    ∧ holdsAt data (pad + 5) (flagByte q.missReported) ∧ holdsAt data (pad + 6) (optTag q.source)
    ∧ holdsAt data (pad + 8) (be2 q.talkGain) ∧ holdsAt data (pad + 10) (be2 q.duck)
    ∧ holdsAt data (pad + 12) (flagByte q.talkback) ∧ holdsAt data (pad + 13) (be2 q.period)
    ∧ holdsAt data (pad + 15) (be2 q.onTime) ∧ holdsAt data (pad + 17) (be3 q.amplitude)
    ∧ holdsAt data (pad + 20) (be2 q.counter) := by
  simpa only [Port.tailData, holdsAt_append, List.length_append, be1_length, be2_length, be3_length, flagByte_length,
    optTag_length, Nat.reduceAdd, and_assoc] using h

theorem Port.listData_layout {q : Port} {own : Tag} {data : List Byte} (h : holdsAt data 17 (q.listData own))
    {recipes hold air minus : Nat} (hrecipes : recipes = 18 + q.queue.length)
    (hhold : hold = recipes + 1 + 3 * q.screenRecipe.length) (hair : air = hold + 1 + 3 * q.holdRecipe.length)
    (hminus : minus = air + 1 + 3 * q.airRecipe.length) :
    holdsAt data 17 (be1 q.queue.length) ∧ holdsAt data 18 (q.queue.map tagByte)
    ∧ holdsAt data recipes (recipeData q.screenRecipe) ∧ holdsAt data hold (recipeData q.holdRecipe)
    ∧ holdsAt data air (recipeData q.airRecipe) ∧ holdsAt data minus (be1 (1 + q.extras.length))
    ∧ holdsAt data (minus + 1) [tagByte own] ∧ holdsAt data (minus + 2) (q.extras.map tagByte) := by
  simp only [Port.listData, holdsAt_append, List.length_append, List.length_map, List.length_singleton, be1_length,
    recipeData_length, Nat.reduceAdd, and_assoc] at h
  obtain ⟨hcount, hqueue, hscreen, hheld, haired, hset, hown, hextras⟩ := h
  exact ⟨hcount, hqueue, hscreen.moved (by omega), hheld.moved (by omega), haired.moved (by omega),
    hset.moved (by omega), hown.moved (by omega), hextras.moved (by omega)⟩

/-! ## DIRECTORY LIST -/

theorem mapValue_testBit {shown : List (Fin 16)} (hsorted : shown.Pairwise (· < ·)) (i : Nat) :
    (mapValue shown).testBit i = true ↔ ∃ c ∈ shown, c.val = i := by
  have hvalues : (shown.map Fin.val).SortedLT := by
    rw [List.sortedLT_iff_pairwise, List.pairwise_map]
    exact hsorted
  have hsum : mapValue shown = ((shown.map Fin.val).map fun i => 2 ^ i).sum := by
    rw [mapValue, List.map_map]
    rfl
  rw [← Nat.mem_bitIndices, hsum, Nat.bitIndices_sum_map_two_pow hvalues, List.mem_map]

theorem mapValue_lt {shown : List (Fin 16)} (hsorted : shown.Pairwise (· < ·)) : mapValue shown < 65536 := by
  refine Nat.lt_pow_two_of_testBit (n := 16) _ fun i hi => ?_
  rw [Bool.eq_false_iff]
  intro hbit
  obtain ⟨c, _, hc⟩ := (mapValue_testBit hsorted i).mp hbit
  omega

theorem presenceMap_testBit (entries : Vector (Option Entry) 16) (c : Fin 16) :
    (presenceMap entries % 65536).testBit c.val = (entries.get c).isSome := by
  have hsorted : ((List.finRange 16).filter fun c => (entries.get c).isSome).Pairwise (· < ·) :=
    (List.pairwise_lt_finRange 16).filter _
  rw [presenceMap, Nat.mod_eq_of_lt (mapValue_lt hsorted), Bool.eq_iff_iff, mapValue_testBit hsorted]
  constructor
  · rintro ⟨d, hd, hdc⟩
    rw [Fin.ext hdc] at hd
    exact (List.mem_filter.mp hd).2
  · exact fun hsome => ⟨c, List.mem_filter.mpr ⟨List.mem_finRange c, hsome⟩, rfl⟩

/-- The data of DIRECTORY LIST. -/
def directoryMaps (s : State) : List Byte := (List.finRange 16).flatMap fun l => be2 (presenceMap (s.directory.get l))

theorem directoryMaps_length (s : State) : (directoryMaps s).length = 32 := by
  rw [directoryMaps, flatMap_length (width := 2) _ fun _ => be2_length _, List.length_finRange]

theorem directoryMaps_testBit (s : State) (l c : Fin 16) :
    (nat2At (directoryMaps s) (2 * l.val)).testBit c.val = (s.entry { station := l, channel := c }).isSome := by
  have hl : (List.finRange 16)[l.val]? = some l := by simp
  have hat := ((holdsAt_self (directoryMaps s)).item (width := 2) (fun _ => be2_length _) hl).be2
  rw [Nat.zero_add] at hat
  rw [hat, presenceMap_testBit]
  rfl

/-! ## The six queries -/

/-- The queries run (R33, R34, R69, R76, R162, R163). -/
theorem queries_answer (s : State) (hs : s.ready) :
    exec (.status []) s = .next (s.answered 2 id .ok (statusData s))
    ∧ (∀ (b : Byte) (l : Fin 16), b.toNat = l.val →
      exec (.laneStats [b]) s = .next (s.answered 3 id .ok (laneStatsData (s.lanes.get l))))
    ∧ (∀ b : Byte, 16 ≤ b.toNat → exec (.laneStats [b]) s = .next (s.answered 3 id .badArgument []))
    ∧ (∃ maps : List Byte, exec (.directoryList []) s = .next (s.answered 2 id .ok maps) ∧ maps.length = 32
      ∧ ∀ l c : Fin 16, (nat2At maps (2 * l.val)).testBit c.val
          = (s.entry { station := l, channel := c }).isSome)
    ∧ (∀ (b : Byte) (e : Entry), s.entry (tagOfByte b) = some e →
      exec (.directoryQuery [b]) s = .next (s.answered 3 id .ok (entryData e)))
    ∧ (∀ b : Byte, s.entry (tagOfByte b) = none →
      exec (.directoryQuery [b]) s = .next (s.answered 3 id .notFound []))
    ∧ (∀ (b : Byte) (p : Fin 8), b.toNat = p.val →
      exec (.portQuery [b]) s = .next (s.answered 3 id .ok (portData s p)))
    ∧ (∀ b : Byte, 8 ≤ b.toNat → exec (.portQuery [b]) s = .next (s.answered 3 id .badArgument []))
    ∧ (∀ (b : Byte) (m : Fin 4), b.toNat = m.val →
      exec (.mixQuery [b]) s = .next (s.answered 3 id .ok (mixData (s.mixes.get m))))
    ∧ (∀ b : Byte, 4 ≤ b.toNat → exec (.mixQuery [b]) s = .next (s.answered 3 id .badArgument [])) := by
  refine ⟨exec_answered hs rfl rfl (by decide) ?_, fun b l hl => exec_answered hs rfl rfl (by decide) ?_,
    fun b hb => exec_answered hs rfl rfl (by decide) ?_, ?_,
    fun b e he => exec_answered hs rfl rfl (by decide) ?_, fun b hb => exec_answered hs rfl rfl (by decide) ?_,
    fun b p hp => exec_answered hs rfl rfl (by decide) ?_, fun b hb => exec_answered hs rfl rfl (by decide) ?_,
    fun b m hm => exec_answered hs rfl rfl (by decide) ?_, fun b hb => exec_answered hs rfl rfl (by decide) ?_⟩
  · rw [decideRequest_status]
    simp [decideStatus]
  · rw [decideRequest_laneStats]
    simp [decideLaneStats, laneArg_of b l hl]
  · rw [decideRequest_laneStats]
    simp [decideLaneStats, laneArg_none b hb, answer]
  · refine ⟨directoryMaps s, exec_answered hs rfl rfl (by decide) ?_, directoryMaps_length s, directoryMaps_testBit s⟩
    rw [decideRequest_directoryList]
    rfl
  · have he' : (s.received 3).entry (tagOfByte b) = some e := he
    rw [decideRequest_directoryQuery]
    simp [decideDirectoryQuery, he']
  · have hb' : (s.received 3).entry (tagOfByte b) = none := hb
    rw [decideRequest_directoryQuery]
    simp [decideDirectoryQuery, hb', answer]
  · rw [decideRequest_portQuery]
    simp [decidePortQuery, portArg_of b p hp]
  · rw [decideRequest_portQuery]
    simp [decidePortQuery, portArg_none b hb, answer]
  · rw [decideRequest_mixQuery]
    simp [decideMixQuery, mixArg_of b m hm]
  · rw [decideRequest_mixQuery]
    simp [decideMixQuery, mixArg_none b hb, answer]

/-- Settles O11: the queries' answers, then the bytes of each from where its fields stand. -/
theorem queriesAnswerAndChangeNothing : Obligations.QueriesAnswerAndChangeNothing := by
  refine ⟨queries_answer, fun s => ?_, fun lane => ?_, fun e => ?_, fun s p => ?_, fun x => mixData_layout rfl⟩
  · obtain ⟨hlen, hstate, hnumber, hseq, hcause, hmonitor, hecho, hquiet, htimer, hclosing, htest, hevents, hoverflow,
      hcut⟩ :=
      statusData_layout (s := s) rfl
    refine ⟨hlen, ?_, hnumber.be1_toNat (by omega), hseq.seq, ?_, ?_, hecho.be1, quietField_at hquiet,
      timerField_at htimer,
      closingField_at hclosing, testField_at htest, hevents.be1, hoverflow.flag, hcut.be2⟩
    · rw [hstate.be1_toNat (stationCode_lt _)]
      exact stationCode_mem _
    · rw [hcause.be1_toNat (resetCauseCode_lt _)]
      cases s.resetCause <;> decide
    · rw [hmonitor.be1]
      cases s.monitor.condition <;> decide
  · obtain ⟨hlen, hcode, hprevious, htally, hmark, hwithdrawing, hgood, hfailures, hmismatches, hslips, htests⟩ :=
      laneStatsData_layout (lane := lane) rfl
    refine ⟨hlen, ?_, ?_, ?_, ?_, hmark.flag, hwithdrawing.flag, hgood.be2, hfailures.be2, hmismatches.be2, hslips.be2,
      htests.be2⟩
    · intro hr
      rw [hr] at hcode hprevious htally
      obtain ⟨hpresence, hzeros⟩ := hprevious.absent
      exact ⟨hcode.be1, hpresence, hzeros.zeros2, htally.zeros2⟩
    · intro previous acquired hr
      rw [hr] at hcode hprevious htally
      obtain ⟨hpresence, hfield⟩ := hprevious.present
      obtain ⟨hcounted, hcount⟩ := htally.present
      exact ⟨hcode.be1, hpresence, hfield.seq, hcounted, hcount.be1⟩
    · intro previous hr
      rw [hr] at hcode hprevious htally
      obtain ⟨hpresence, hfield⟩ := hprevious.present
      exact ⟨hcode.be1, hpresence, hfield.seq, htally.zeros2⟩
    · intro previous misses hr
      rw [hr] at hcode hprevious htally
      obtain ⟨hpresence, hfield⟩ := hprevious.present
      obtain ⟨hcounted, hcount⟩ := htally.present
      exact ⟨hcode.be1, hpresence, hfield.seq, hcounted, hcount.be1⟩
  · obtain ⟨kind, rest, hdata⟩ : ∃ kind rest, entryData e =
        be1 kind ++ be2 e.sequence.toNat ++ flagByte e.fresh ++ be2 e.age ++ rest := by
      cases he : e.body with
      | party state activity holder count => exact ⟨_, _, entryData_party e he⟩
      | feed => exact ⟨_, _, entryData_feed e he⟩
      | mix r => exact ⟨_, _, entryData_mix e he⟩
    obtain ⟨_, hseq, hfresh, hage, _, _⟩ := entryHead_layout hdata
    refine ⟨hseq, hfresh, hage, fun state activity holder count he => ?_, fun he => ?_,
      fun record he => entryData_ofMix he rfl⟩
    · obtain ⟨hkind, _, _, _, hbody, hlen⟩ := entryHead_layout (entryData_party e he)
      simp only [holdsAt_append, List.length_append, be1_length, flagByte_length, optTag_length, Nat.reduceAdd,
        and_assoc]
        at hbody hlen
      obtain ⟨hstate, hactivity, hholder, hcount⟩ := hbody
      refine ⟨hlen, hkind, ?_, hactivity.flag, hholder.tag, hcount.be1⟩
      rw [hstate.be1_toNat (portStateCode_lt _)]
      exact portStateCode_mem state
    · obtain ⟨hkind, _, _, _, _, hlen⟩ := entryHead_layout (entryData_feed e he)
      exact ⟨hlen, hkind⟩
  · have hat := holdsAt_of_eq (portData_eq s p)
    have hlen := congrArg List.length (portData_eq s p)
    simp only [holdsAt_append, List.length_append, Port.headData_length, Port.listData_length, Port.tailData_length,
      and_assoc] at hat hlen
    obtain ⟨hhead, hlists, htail⟩ := hat
    obtain ⟨hstate, hgroup, hchoice, hthreshold, hnotice, hpeak, hactivity, hquiet, harmed, hlevel, hholder⟩ :=
      Port.headData_layout hhead
    obtain ⟨hcount, hqueue, hscreen, hhold, hair, hminus, hown, hextras⟩ := Port.listData_layout hlists rfl rfl rfl rfl
    obtain ⟨hpad, hmisses, hsaturations, hreported, hsource, hgain, hduck, htalkback, hperiod, honTime, hamplitude,
      hcounter⟩ := Port.tailData_layout (htail.moved (j := 18 + (s.ports.get p).queue.length + 1
        + 3 * (s.ports.get p).screenRecipe.length + 1 + 3 * (s.ports.get p).holdRecipe.length + 1
        + 3 * (s.ports.get p).airRecipe.length + 2 + (s.ports.get p).extras.length) (by omega))
    refine ⟨by omega, ?_, ?_, ?_, hthreshold.be3, hnotice.flag, hpeak.be3, hactivity.flag, hquiet.be2, harmed.flag, ?_,
      hholder.tag, hcount.be1, fun i m hi => hqueue.tags hi, ?_, hminus.be1, hown.byte, fun i tag hi => hextras.tags hi,
      hpad.be1, hmisses.be2, hsaturations.be2, hreported.flag, hsource.tag, hgain.be2, hduck.be2, htalkback.flag,
      hperiod.be2, honTime.be2, hamplitude.be3, hcounter.be2⟩
    · rw [hstate.be1_toNat (portStateCode_lt _)]
      exact portStateCode_mem _
    · rw [hgroup.be1]
      unfold groupOfPort
      split <;> rfl
    · rw [hchoice.be1_toNat (choiceCode_lt _)]
      cases (s.ports.get p).choice <;> decide
    · rw [hlevel.flag]
      unfold groupOfPort
      split <;> rfl
    · intro start recipe hmem
      simp only [List.mem_cons, Prod.mk.injEq, List.not_mem_nil, or_false] at hmem
      obtain ⟨rfl, rfl⟩ | ⟨rfl, rfl⟩ | ⟨rfl, rfl⟩ := hmem
      · exact hscreen.recipe
      · exact hhold.recipe
      · exact hair.recipe

end Sys2Proof.Machine
end

section
/-! What the lanes and the card audio port bring between strobes (R8 to R10, R18, R19, R178). -/

namespace Sys2Proof.Machine

/-! ## Frames between strobes -/

theorem State.updLane_eq (s : State) (l : Fin 16) (f : Lane → Lane) :
    s.updLane l f = { s with lanes := upd s.lanes l f } := rfl

theorem Station.noteStart_eq (st : Station) (noted : Bool) :
    (if noted = true then st.noteStart else st) = match st with
      | .starting quiet heard => .starting quiet (heard || noted)
      | other => other := by
  cases st <;> cases noted <;> simp [Station.noteStart]

theorem exec_frameStart {s : State} {lane : Fin 16} (hidle : (s.lanes.get lane).receiving = false) :
    exec (.frameStart lane) s = .next { s with
      lanes := upd s.lanes lane fun l => { l with receiving := true }
      station := if (!s.inReset && lane == s.stationNumber) = true then s.station.noteStart else s.station } := by
  simp only [exec, execFrameStart, hidle, Bool.false_eq_true, if_false]
  split
  · rfl
  · rfl

/-- The class of a frame, by the tests of R9 in their order. -/
def FrameClass.isOf (cls : FrameClass) (lane : Fin 16) (bytes frame : List Byte) (ending : FrameEnding) : Prop :=
  test1 bytes = false ∧ cls = .checkFailure
    ∨ test1 bytes = true ∧ test2 bytes ending = false ∧ cls = .checkFailure
    ∨ test1 bytes = true ∧ test2 bytes ending = true ∧ test3 frame = false ∧ cls = .checkFailure
    ∨ test1 bytes = true ∧ test2 bytes ending = true ∧ test3 frame = true ∧ test4 lane frame = false
      ∧ cls = .stationMismatch
    ∨ test1 bytes = true ∧ test2 bytes ending = true ∧ test3 frame = true ∧ test4 lane frame = true
      ∧ test5 frame = false ∧ cls = .checkFailure
    ∨ test1 bytes = true ∧ test2 bytes ending = true ∧ test3 frame = true ∧ test4 lane frame = true
      ∧ test5 frame = true ∧ test6 frame = false ∧ cls = .testFrame
    ∨ test1 bytes = true ∧ test2 bytes ending = true ∧ test3 frame = true ∧ test4 lane frame = true
      ∧ test5 frame = true ∧ test6 frame = true ∧ cls = .good

theorem checkFrame_of {cls : FrameClass} {lane : Fin 16} {bytes frame : List Byte} {ending : FrameEnding}
    (hframe : frame = bytes.take (lengthField bytes)) (h : cls.isOf lane bytes frame ending) :
    (checkFrame lane bytes ending).cls = cls
      ∧ (test1 bytes = true → test2 bytes ending = true → (checkFrame lane bytes ending).bytes = frame) := by
  subst hframe
  rcases h with ⟨h1, rfl⟩ | ⟨h1, h2, rfl⟩ | ⟨h1, h2, h3, rfl⟩ | ⟨h1, h2, h3, h4, rfl⟩ | ⟨h1, h2, h3, h4, h5, rfl⟩
    | ⟨h1, h2, h3, h4, h5, h6, rfl⟩ | ⟨h1, h2, h3, h4, h5, h6, rfl⟩ <;> simp [checkFrame, *]

theorem Lane.complete_eq (lane : Lane) (frame : Received) (untimed : Bool) :
    lane.complete frame untimed = { lane with
      receiving := false
      frame := if untimed = true then lane.frame else some frame
      good := if frame.cls = .good then addCount lane.good 1 else lane.good
      checkFailures := if frame.cls = .checkFailure then addCount lane.checkFailures 1 else lane.checkFailures
      stationMismatches :=
        if frame.cls = .stationMismatch then addCount lane.stationMismatches 1 else lane.stationMismatches
      testFrames := if frame.cls = .testFrame then addCount lane.testFrames 1 else lane.testFrames } := by
  unfold Lane.complete
  cases frame.cls <;> simp [Lane.count]

/-- Settles O30, clause by clause from what the two commands write. -/
theorem framesAreReceivedAndCounted : Obligations.FramesAreReceivedAndCounted := by
  intro s lane bytes ending
  refine ⟨fun hidle => ?_, fun hreceiving hreset => ?_, fun hreceiving hreset frame cls hframe hcls => ?_⟩
  · rw [exec_frameStart hidle, Station.noteStart_eq] <;> rfl
  · simp [exec, execFrameComplete, hreceiving, hreset, State.updLane_eq]
  · obtain ⟨htaken, hbytes⟩ := checkFrame_of hframe hcls
    refine ⟨checkFrame lane bytes ending, htaken, hbytes, ?_⟩
    simp [exec, execFrameComplete, hreceiving, hreset, State.updLane_eq, Lane.complete_eq, htaken]

/-! ## The card audio port -/

theorem slotSample_eq (slot : BitVec 32) : slotSample slot = slot.toInt / 256 := by
  have hslot := slot.isLt
  rw [slotSample, BitVec.toInt_eq_toNat_cond, BitVec.toInt_eq_toNat_cond, BitVec.extractLsb'_toNat,
    Nat.shiftRight_eq_div_pow]
  norm_num at hslot ⊢
  split <;> split <;> omega

theorem sampleSlot_eq (sample : Int) : sampleSlot sample = BitVec.ofInt 32 (256 * sample) := by
  apply BitVec.eq_of_toNat_eq
  rw [sampleSlot, BitVec.toNat_append, BitVec.toNat_ofInt, BitVec.toNat_ofInt]
  simp only [BitVec.ofNat_eq_ofNat, BitVec.toNat_ofNat, Nat.zero_mod, Nat.or_zero, Nat.shiftLeft_eq]
  norm_num
  omega

/-- Settles O31. -/
theorem sampleFramesCaptureAndPlay : Obligations.SampleFramesCaptureAndPlay := by
  intro s adin hreset
  refine ⟨fun htimed n hn => ?_, fun hsilent => ?_⟩
  · have hbelow : s.position < 16 := by omega
    have hposition : (⟨s.position, hbelow⟩ : Fin 16) = n := Fin.ext hn
    refine ⟨{ s with capture := s.capturedSlots adin n, adout := s.playedSlots n, position := s.position + 1 }, ?_, ?_,
      fun c k => ?_, fun p => ?_, fun slot hslot => ?_⟩
    · simp [exec, execSampleFrame, hreset, htimed, hbelow, hposition]
    · simp only [hn]
    · simp only [State.capturedSlots, tab_get, upd_get, slotSample_eq, eq_comm]
    · simp [State.playedSlots, sampleSlot_eq]
    · have : ¬ slot.val < 8 := by omega
      simp [State.playedSlots, this]
  · rcases hsilent with huntimed | hpast
    · simp [exec, execSampleFrame, hreset, huntimed]
    · have : ¬ s.position < 16 := by omega
      simp [exec, execSampleFrame, hreset, this]

end Sys2Proof.Machine
end

section
/-! What every strobe leaves alone (R1, R10, R39). -/

namespace Sys2Proof.Machine

/-- The terms of a mix without their claim statuses. -/
def Mix.listing (x : Mix) : List (Tag × Nat) := x.terms.map fun e => (e.tag, e.coefficient)

/-- What a lane's receiver has followed and counted by class. -/
def Lane.counted (lane : Lane) : Bool × Nat × Nat × Nat × Nat :=
  (lane.receiving, lane.good, lane.checkFailures, lane.stationMismatches, lane.testFrames)

/-- What a strobe leaves alone. -/
structure State.Struck (s t : State) : Prop where
  link : t.link = s.link
  resets : t.resets = s.resets
  resetCause : t.resetCause = s.resetCause
  adout : t.adout = s.adout
  pending : t.pending = s.pending
  advances : s.Advances t
  listings : ∀ m, (t.mixes.get m).listing = (s.mixes.get m).listing
  lanes : ∀ l, (t.lanes.get l).counted = (s.lanes.get l).counted

theorem State.Struck.refl (s : State) : s.Struck s :=
  ⟨rfl, rfl, rfl, rfl, rfl, ⟨rfl, fun _ => .refl _⟩, fun _ => rfl, fun _ => rfl⟩

theorem State.Struck.trans {s t u : State} (h : s.Struck t) (k : t.Struck u) : s.Struck u where
  link := k.link.trans h.link
  resets := k.resets.trans h.resets
  resetCause := k.resetCause.trans h.resetCause
  adout := k.adout.trans h.adout
  pending := k.pending.trans h.pending
  advances := ⟨k.advances.number.trans h.advances.number, fun p => (h.advances.ports p).trans (k.advances.ports p)⟩
  listings m := (k.listings m).trans (h.listings m)
  lanes l := (k.lanes l).trans (h.lanes l)

theorem laneAfter_counted (lane : Lane) (frame : BlockFrame) :
    { laneAfter lane frame with frame := none }.counted = lane.counted := by
  cases frame <;> rfl

theorem State.statused_listing (s : State) (inp : StrobeInput) (m : Fin 4) :
    ((s.statused inp).mixes.get m).listing = (s.mixes.get m).listing := by
  have hchecked : ((s.checked inp).mixes.get m).terms = (s.mixes.get m).terms := by
    rw [State.checked_mix]
    split <;> rfl
  rw [State.statused_mix, Mix.listing, hchecked, List.map_map]
  rfl

theorem State.composed_listing (s : State) (inp : StrobeInput) (m : Fin 4) :
    ((s.composed inp).mixes.get m).listing = (s.mixes.get m).listing := by
  rw [← s.statused_listing inp m, State.composed_mix]
  split <;> rfl

theorem State.struck_taken (s : State) (inp : StrobeInput) (h : s.takesStrobes) : s.Struck (s.afterStrobe inp) where
  link := s.afterStrobe_link inp h
  resets := s.afterStrobe_resets inp h
  resetCause := s.afterStrobe_resetCause inp h
  adout := s.afterStrobe_adout inp h
  pending := s.afterStrobe_pending inp h
  advances := s.afterStrobe_advances inp
  listings m := by rw [s.afterStrobe_mixes inp h, State.composed_listing]
  lanes l := by rw [s.afterStrobe_lane inp h, laneAfter_counted]

theorem State.struck_afterStrobe (s : State) (inp : StrobeInput) : s.Struck (s.afterStrobe inp) :=
  State.afterStrobe_keeps (inv := s.Struck) inp
    (fun _ h => { h with advances := ⟨h.advances.number, h.advances.ports⟩ })
    (fun _ h => { h with advances := ⟨h.advances.number, h.advances.ports⟩ })
    (fun u hu h => h.trans (u.struck_taken inp hu)) (.refl s)

theorem State.struck_strobeWhen (s : State) (inp : StrobeInput) (due : State → State → Bool) :
    s.Struck (s.strobeWhen inp due) := by
  unfold State.strobeWhen
  split
  · exact s.struck_afterStrobe inp
  · exact .refl s

/-- The commands that are a strobe. -/
def strobeCommands (inp : StrobeInput) (lane : Fin 16) (port : Fin 8) : List Instr :=
  [.blockStrobe inp, .strobeRunComplete inp, .acquireComplete inp lane, .missLimit inp lane, .listenComplete inp,
    .echoMismatchLimit inp, .quietRunComplete inp port, .withdrawalTimerExpiry inp, .finalCountComplete inp,
    .laneTestComplete inp]

/-- Each of them is the strobe, or the strobe when its threshold is reached. -/
theorem exec_strobeCommand {inp : StrobeInput} {lane : Fin 16} {port : Fin 8} {c : Instr}
    (hc : c ∈ strobeCommands inp lane port) (s : State) :
    exec c s = .next (s.afterStrobe inp) ∨ ∃ due, exec c s = .next (s.strobeWhen inp due) := by
  simp only [strobeCommands, List.mem_cons, List.not_mem_nil, or_false] at hc
  rcases hc with rfl | rfl | rfl | rfl | rfl | rfl | rfl | rfl | rfl | rfl
  · exact .inl rfl
  all_goals exact .inr ⟨_, rfl⟩

/-- Settles O33: every strobe command leaves alone what a strobe leaves alone. -/
theorem strobesKeepTheSettings : Obligations.StrobesKeepTheSettings := by
  intro s t c inp lane port hc hexec
  have hstruck : s.Struck t := by
    rcases exec_strobeCommand hc s with h | ⟨due, h⟩ <;> rw [h] at hexec <;> cases hexec
    · exact s.struck_afterStrobe inp
    · exact s.struck_strobeWhen inp due
  obtain ⟨hlink, hresets, hcause, hadout, hpending, hadvances, hlistings, hlanes⟩ := hstruck
  refine ⟨hlink, hresets, hcause, hadvances.number, hadout, hpending,
    fun p => Port.settings_eq_iff.mp (hadvances.ports p).settings, hlistings, fun l => ?_⟩
  simpa only [Lane.counted, Prod.mk.injEq] using hlanes l

end Sys2Proof.Machine
end

section
/-! The lanes at a taken strobe: the frames of the block, the receive states and their events (R8 to R17, R149). -/

namespace Sys2Proof.Machine

/-! ## The echo check's verdict (R16) -/

/-- The station states in which an echo is judged (R16). -/
def State.judges (s : State) : Prop :=
  s.station = .running ∨ (∃ timer, s.station = .withdrawing timer)
    ∨ ∃ cause finals, s.station = .closing cause finals ∧ finals < 8

theorem State.verdict_of_judges {s : State} (h : s.judges) :
    s.verdict = match s.sent with
      | some frame => if echoMatches frame (s.lanes.get s.stationNumber).frame then .matched else .mismatched
      | none => .notJudged := by
  unfold State.verdict
  rcases h with h | ⟨timer, h⟩ | ⟨cause, finals, h, hfinals⟩
  · rw [h] <;> rfl
  · rw [h] <;> rfl
  · rw [h]
    exact if_pos hfinals

theorem State.verdict_of_not_judges {s : State} (h : ¬s.judges) : s.verdict = .notJudged := by
  by_contra hv
  rcases State.verdict_judges hv with hactive | ⟨cause, finals, hst, hfinals⟩
  · rcases s.active_iff.mp hactive with hst | hst
    · exact h (.inl hst)
    · exact h (.inr (.inl hst))
  · exact h (.inr (.inr ⟨cause, finals, hst, hfinals⟩))

theorem echoMatches_eq_true_iff (sent : List Byte) (own : Option Received) :
    echoMatches sent own = true ↔ own = some { bytes := sent, cls := .good } := by
  unfold echoMatches
  cases own with
  | none => simp
  | some r =>
    obtain ⟨bytes, cls⟩ := r
    simp [and_comm]

theorem State.verdict_eq_matched_iff (s : State) :
    s.verdict = .matched ↔ s.judges ∧ ∃ frame, s.sent = some frame
      ∧ (s.lanes.get s.stationNumber).frame = some { bytes := frame, cls := .good } := by
  by_cases hj : s.judges
  · rw [State.verdict_of_judges hj]
    cases hsent : s.sent with
    | none => simp [hj]
    | some frame =>
      simp only [hj, true_and, Option.some.injEq, exists_eq_left', ← echoMatches_eq_true_iff]
      split <;> simp_all
  · simp [State.verdict_of_not_judges hj, hj]

/-! ## The frames of the block (R8, R9, R17) -/

theorem State.blockFrame_eq_missing_iff (s : State) (v : Verdict) (l : Fin 16) :
    s.blockFrame v l = .missing ↔ (s.lanes.get l).frame = none := by
  unfold State.blockFrame
  cases (s.lanes.get l).frame with
  | none => simp
  | some r => simp only [reduceCtorEq, iff_false]; split <;> simp

theorem State.blockFrame_of_frame {s : State} {l : Fin 16} {r : Received} (h : (s.lanes.get l).frame = some r)
    (v : Verdict) :
    s.blockFrame v l = if r.cls = .good ∧ (l ≠ s.stationNumber ∨ v = .matched)
        then .valid (readFrame r.bytes) else .invalid := by
  simp [State.blockFrame, h]

theorem State.blockFrame_own {s : State} {r : Received} (h : (s.lanes.get s.stationNumber).frame = some r) :
    (s.judges ∧ r.cls = .good ∧ s.sent = some r.bytes →
        s.blockFrame s.verdict s.stationNumber = .valid (readFrame r.bytes))
      ∧ (¬(s.judges ∧ r.cls = .good ∧ s.sent = some r.bytes) → s.blockFrame s.verdict s.stationNumber = .invalid) := by
  obtain ⟨bytes, cls⟩ := r
  have hmatched : cls = .good ∧ s.verdict = .matched ↔ s.judges ∧ cls = .good ∧ s.sent = some bytes := by
    rw [State.verdict_eq_matched_iff, h]
    constructor
    · rintro ⟨hgood, hj, frame, hsent, hframe⟩
      cases hframe
      exact ⟨hj, hgood, hsent⟩
    · rintro ⟨hj, rfl, hsent⟩
      exact ⟨rfl, hj, bytes, hsent, rfl⟩
  rw [State.blockFrame_of_frame h, ← hmatched]
  simp only [ne_eq, not_true_eq_false, false_or]
  exact ⟨fun h => if_pos h, fun h => if_neg h⟩

/-! ## A lane after the frame of its block (R11 to R13, R149) -/

theorem addCount_zero {n : Nat} (h : n ≤ 65535) : addCount n 0 = n := min_eq_right h

theorem laneAfter_valid (lane : Lane) (f : Frame) :
    laneAfter lane (.valid f) = { lane with
      receive := receiveValid lane.receive f.sequence
      finalMark := f.final
      withdrawing := if f.final then lane.withdrawing else f.withdrawing
      slips := addCount lane.slips (if slipsOn lane.receive f.sequence then 1 else 0) } := rfl

/-- A lane without a valid frame. -/
theorem laneAfter_unheard (lane : Lane) {frame : BlockFrame} (h : ∀ f, frame ≠ .valid f) :
    laneAfter lane frame = { lane with
      receive := receiveAfter lane frame
      finalMark := if frame = .missing then false else lane.finalMark
      withdrawing := lane.withdrawing && receiveAfter lane frame != .absent } := by
  cases frame with
  | missing => rfl
  | invalid => rfl
  | valid f => exact absurd rfl (h f)

theorem receiveAfter_of_final {lane : Lane} (h : lane.finalMark = true) : receiveAfter lane .missing = .absent :=
    if_pos h

theorem receiveAfter_of_miss {lane : Lane} {frame : BlockFrame} (hframe : ∀ f, frame ≠ .valid f)
    (h : frame = .invalid ∨ lane.finalMark = false) : receiveAfter lane frame = receiveMiss lane.receive := by
  cases frame with
  | missing => simp_all [receiveAfter]
  | invalid => rfl
  | valid f => exact absurd rfl (hframe f)

theorem receiveMiss_of_lapsed {previous : Seq} {misses : Nat} :
    (misses < 7 → receiveMiss (.lapsed previous misses) = .lapsed previous (misses + 1))
      ∧ (7 ≤ misses → receiveMiss (.lapsed previous misses) = .absent) :=
  ⟨fun h => if_neg (by omega), fun h => if_pos (by omega)⟩

/-! ## The events of the lanes -/

theorem State.afterStrobe_told_lane {s : State} (inp : StrobeInput) (h : s.takesStrobes) (l : Fin 16) {e : Event}
    (he : e ∈ laneEvent l (s.lanes.get l) (s.blockFrame s.verdict l)) : (s.afterStrobe inp).told e := by
  refine s.afterStrobe_told inp h e ⟨(lanePass (s.blockFrames s.verdict) (s.closed inp)).chains,
    by simp [State.strobeChains],
    laneEvent l (s.lanes.get l) (s.blockFrame s.verdict l), ?_, he⟩
  simp only [lanePass, List.mem_map, List.mem_finRange, true_and, State.closed_lanes, State.blockFrames, tab_get]
  exact ⟨l, rfl⟩

theorem laneEvent_present {l : Fin 16} {lane : Lane} {f : Frame} {previous : Seq} {acquired : Nat}
    (hreceive : lane.receive = .acquiring previous acquired) (hseq : f.sequence = previous + 1)
      (hthird : 2 ≤ acquired) :
    laneEvent l lane (.valid f) = [.lanePresent l f.sequence] := by
  have hafter : receiveAfter lane (.valid f) = .present f.sequence := by
    simp only [receiveAfter, hreceive, receiveValid, hseq, if_true]
    exact if_pos (by omega)
  simp only [laneEvent, hreceive, hafter]

theorem laneEvent_withdrawn {l : Fin 16} {lane : Lane} {previous : Seq} (hmark : lane.finalMark = true)
    (hreceive : lane.receive = .present previous ∨ ∃ misses, lane.receive = .lapsed previous misses) :
    laneEvent l lane .missing = [.laneWithdrawn l previous] := by
  have hafter := receiveAfter_of_final hmark
  rcases hreceive with h | ⟨misses, h⟩
  · simp only [laneEvent, h, hafter]
  · simp only [laneEvent, h, hafter, hmark, if_true]

theorem laneEvent_lost {l : Fin 16} {lane : Lane} {frame : BlockFrame} {previous : Seq} {misses : Nat}
    (hframe : ∀ f, frame ≠ .valid f) (hmark : frame = .invalid ∨ lane.finalMark = false)
    (hreceive : lane.receive = .lapsed previous misses) (hlimit : 7 ≤ misses) :
    laneEvent l lane frame = [.laneLost l previous] := by
  have hafter : receiveAfter lane frame = .absent := by
    rw [receiveAfter_of_miss hframe hmark, hreceive]
    exact receiveMiss_of_lapsed.2 hlimit
  cases frame with
  | valid f => exact absurd rfl (hframe f)
  | invalid => simp only [laneEvent, hreceive, hafter]
  | missing =>
    have hunmarked : lane.finalMark = false := by simpa using hmark
    simp only [laneEvent, hreceive, hafter, hunmarked, Bool.false_eq_true, if_false]

/-- Settles O35: a valid frame by the four receive states, no valid frame by its two kinds and the receive states. -/
theorem strobesMoveTheLanes : Obligations.StrobesMoveTheLanes := by
  intro s inp htakes
  refine ⟨s.afterStrobe inp, rfl, fun l hslips => ?_⟩
  have hlane := s.afterStrobe_lane inp htakes l
  have htold := fun e => State.afterStrobe_told_lane inp htakes l (e := e)
  dsimp only
  rw [hlane]
  refine ⟨rfl, s.blockFrame_eq_missing_iff _ l, fun hother r hr => ?_, fun hown r hr => ?_, fun f hf => ?_,
    fun hunheard => ?_⟩
  · rw [State.blockFrame_of_frame hr]
    simp only [hother, ne_eq, not_false_eq_true, true_or, and_true]
    exact ⟨fun hgood => if_pos hgood, fun hbad => if_neg hbad⟩
  · subst hown
    exact State.blockFrame_own hr
  · rw [hf] at htold ⊢
    simp only [laneAfter_valid, true_and]
    refine ⟨fun hr => ?_, fun previous acquired hr => ?_, fun previous hr => ?_, fun previous misses hr => ?_⟩
    · exact ⟨by rw [hr]; rfl, by rw [hr]; exact addCount_zero hslips⟩
    · refine ⟨by rw [hr]; exact addCount_zero hslips, fun hseq hfew => ?_, fun hseq hthird => ⟨?_, ?_⟩, fun hseq => ?_⟩
      · rw [hr, receiveValid, if_pos hseq, if_neg (by omega)]
      · rw [hr, receiveValid, if_pos hseq, if_pos (by omega)]
      · exact htold _ (by rw [laneEvent_present hr hseq hthird]; exact List.mem_singleton_self _)
      · rw [hr, receiveValid, if_neg hseq]
    · refine ⟨by rw [hr]; rfl, ?_⟩
      rw [hr]
      by_cases hseq : f.sequence = previous + 1
      · have hin : slipsOn (.present previous) f.sequence = false := by rw [slipsOn, hseq, bne_self_eq_false]
        rw [hin, if_pos hseq]
        exact addCount_zero hslips
      · have hslip : slipsOn (.present previous) f.sequence = true := bne_iff_ne.mpr hseq
        rw [hslip, if_neg hseq]
        rfl
    · exact ⟨by rw [hr]; rfl, by rw [hr]; exact addCount_zero hslips⟩
  · rw [laneAfter_unheard _ hunheard]
    refine ⟨rfl, rfl, fun hframe => by simp [hframe], fun hframe => by simp [hframe], fun hframe hmark => ⟨?_, ?_⟩,
      fun hmiss => ?_⟩
    · rw [hframe]
      exact receiveAfter_of_final hmark
    · intro previous misses hr
      refine htold _ ?_
      rw [hframe, laneEvent_withdrawn (previous := previous) hmark (hr.imp_right fun h => ⟨misses, h⟩)]
      exact List.mem_singleton_self _
    · have hreceive := receiveAfter_of_miss hunheard hmiss
      dsimp only
      rw [hreceive]
      refine ⟨fun hr => by rw [hr]; rfl, fun _ _ hr => by rw [hr]; rfl, fun _ hr => by rw [hr]; rfl,
        fun previous misses hr => ⟨fun hfew => ?_, fun hlimit => ⟨?_, ?_⟩⟩⟩
      · rw [hr]
        exact receiveMiss_of_lapsed.1 hfew
      · rw [hr]
        exact receiveMiss_of_lapsed.2 hlimit
      · exact htold _ (by rw [laneEvent_lost hunheard hmiss hr hlimit]; exact List.mem_singleton_self _)

end Sys2Proof.Machine
end

section
/-! The station state and the frame after a taken strobe, case by case (R5, R6, R16, R19, R20, R144, R147, R153). -/

namespace Sys2Proof.Machine

/-! ## The station state -/

theorem State.conflicts_false_of_few {s : State} (h : s.verdict = .mismatched → s.echoMismatch < 2) :
    s.conflicts = false := State.conflicts_eq_false h

/-- The third mismatch is judged in a state that judges. -/
theorem State.judges_of_conflicts {s : State} (h : s.conflicts = true) : s.judges := by
  by_contra hj
  have hv := ((State.conflicts_eq_true_iff s).mp h).1
  rw [State.verdict_of_not_judges hj] at hv
  cases hv

theorem State.conflicts_eq_false_of_not_judges {s : State} (h : ¬s.judges) : s.conflicts = false := by
  rcases Bool.eq_false_or_eq_true s.conflicts with hc | hc
  · exact absurd (State.judges_of_conflicts hc) h
  · exact hc

theorem State.closed_station_of_few {s : State} (hc : s.conflicts = false) (inp : StrobeInput) :
    (s.closed inp).station = s.station.listened.closedOut := by
  rw [State.closed_station_eq, hc]
  rfl

theorem State.closed_station_of_conflicts {s : State} (hc : s.conflicts = true) (inp : StrobeInput) :
    (s.closed inp).station = .conflict := by
  rw [State.closed_station_eq, hc]
  rfl

theorem State.judged_station_of_closed {s : State} {inp : StrobeInput} {st : Station}
    (h : (s.closed inp).station = st) (hwithdrawing : ∀ timer, st ≠ .withdrawing timer)
    (htest : ∀ test, st ≠ .withdrawn (some test)) : (s.judged inp).station = st := by
  subst h
  have hchecked := State.checked_station_of_other hwithdrawing
  rw [State.judged_station_of_other (by rw [hchecked]; exact htest), hchecked]

/-- The listen window and the end of CLOSING begin no withdrawal and no lane test. -/
theorem Station.settled_cases (st : Station) :
    st.listened.closedOut = st ∨ (∀ timer, st.listened.closedOut ≠ .withdrawing timer)
      ∧ ∀ test, st.listened.closedOut ≠ .withdrawn (some test) := by
  cases st with
  | starting quiet heard =>
    right
    rcases quiet with _ | quiet
    · exact ⟨fun _ => nofun, fun _ => nofun⟩
    · cases heard with
      | true => exact ⟨fun _ => nofun, fun _ => nofun⟩
      | false =>
        rcases Nat.lt_or_ge (quiet + 1) 16 with h | h
        · simp [Station.listened, Station.closedOut, Nat.not_le.mpr h]
        · simp [Station.listened, Station.closedOut, h]
  | closing cause finals =>
    rcases Nat.lt_or_ge finals 8 with h | h
    · exact .inl (if_pos h)
    · simp [Station.listened, Station.closedOut, Nat.not_lt.mpr h]
  | _ => exact .inl rfl

/-- A station that is neither withdrawing nor testing, and enters no CONFLICT by its echo, follows the listen window
and the end of CLOSING. -/
theorem State.judged_station_of_plain {s : State} (inp : StrobeInput) (hc : s.conflicts = false)
    (hwithdrawing : ∀ timer, s.station ≠ .withdrawing timer) (htest : ∀ test, s.station ≠ .withdrawn (some test)) :
    (s.judged inp).station = s.station.listened.closedOut := by
  have hclosed := State.closed_station_of_few hc inp
  rcases s.station.settled_cases with h | ⟨h, k⟩
  · exact State.judged_station_of_closed hclosed (by rwa [h]) (by rwa [h])
  · exact State.judged_station_of_closed hclosed h k

theorem State.judged_station_of_conflicts {s : State} (inp : StrobeInput) (hc : s.conflicts = true) :
    (s.judged inp).station = .conflict :=
  State.judged_station_of_closed (State.closed_station_of_conflicts hc inp) nofun nofun

/-- The withdrawal check by its three outcomes. -/
theorem State.judged_station_of_withdrawing {s : State} (inp : StrobeInput) (hc : s.conflicts = false) {timer : Nat}
    (hst : s.station = .withdrawing timer) :
    (s.judged inp).station =
      if (s.claimed inp).heldPorts = 0 then .closing .normal 0
      else if timer + 1 < 30000 then .withdrawing (timer + 1) else .running := by
  have hclaimed : (s.claimed inp).station = .withdrawing timer := by
    rw [State.claimed_station, State.closed_station_of_few hc, hst]
    rfl
  have hchecked : (s.checked inp).station =
      if (s.claimed inp).heldPorts = 0 then .closing .normal 0
      else if timer + 1 < 30000 then .withdrawing (timer + 1) else .running := by
    unfold State.checked
    split
    next hfree => rw [withdrawalPass_of_free hclaimed hfree]; rfl
    next hheld =>
      split
      next htimer => rw [withdrawalPass_of_held hclaimed hheld htimer]; rfl
      next htimer => rw [withdrawalPass_of_denied hclaimed hheld (by omega)]
                     rfl
  rw [← hchecked]
  apply State.judged_station_of_other
  intro test
  rw [hchecked]
  split_ifs <;> nofun

/-- The lane test in the state in which a strobe judges it. -/
theorem State.composed_test {s : State} (inp : StrobeInput) {test : LaneTest}
    (hst : s.station = .withdrawn (some test)) :
    (s.composed inp).station = .withdrawn (some test)
      ∧ testVerdict (s.composed inp).sent ((s.composed inp).lanes.get (s.composed inp).stationNumber).frame
          = testVerdict s.sent (s.lanes.get s.stationNumber).frame := by
  have hj : ¬s.judges := by simp [State.judges, hst]
  have hclosed : (s.closed inp).station = .withdrawn (some test) := by
    rw [State.closed_station_of_few (State.conflicts_eq_false_of_not_judges hj), hst]
    rfl
  refine ⟨?_, ?_⟩
  · rw [State.composed_station, State.checked_station_of_other (by rw [hclosed]; nofun), hclosed]
  · have hframe : ((s.laned inp).lanes.get s.stationNumber).frame = (s.lanes.get s.stationNumber).frame := by
      simp only [State.laned, lanePass, State.mapLanes_lanes, tab_get, State.closed_lanes]
      cases (s.blockFrames s.verdict).get s.stationNumber <;> rfl
    rw [State.composed_sent, State.composed_lanes, State.composed_stationNumber, hframe]

theorem State.judged_station_of_test {s : State} (inp : StrobeInput) {test after : LaneTest}
    (hst : s.station = .withdrawn (some test))
    (hafter : after = test.judge (testVerdict s.sent (s.lanes.get s.stationNumber).frame)) :
    (s.judged inp).station =
      if test.judged < test.sent then (if 4 ≤ after.judged then .withdrawn none else .withdrawn (some after))
      else .withdrawn (some test) := by
  obtain ⟨hcomposed, hverdict⟩ := State.composed_test inp hst
  unfold State.judged
  rcases testPass_cases (s.composed inp) with ⟨test', hst', hless, hlimit, h⟩ | ⟨test', hst', hless, hlimit, h⟩ |
    ⟨hdone, h⟩
  · rw [hcomposed] at hst'
    cases hst'
    rw [hverdict, ← hafter] at hlimit
    rw [h, if_pos hless, if_pos hlimit]
    rfl
  · rw [hcomposed] at hst'
    cases hst'
    rw [hverdict, ← hafter] at hlimit h
    rw [h, if_pos hless, if_neg (by omega)]
    rfl
  · rw [h, if_neg (Nat.not_lt.mpr (hdone test hcomposed))]
    exact hcomposed

theorem State.afterStrobe_station_of_judged {s : State} {inp : StrobeInput} (htakes : s.takesStrobes) {st : Station}
    (h : (s.judged inp).station = st) : (s.afterStrobe inp).station = st.afterSending := by
  rw [s.afterStrobe_station inp htakes, State.transmitted_station, h]

/-! ## LOUT -/

theorem State.closed_lout_of_conflicts {s : State} (hc : s.conflicts = true) (inp : StrobeInput) :
    (s.closed inp).lout = .released := by
  rw [State.closed_lout, State.listened_lout, State.listened_station, State.echoed_station, State.echoed_lout, hc]
  rfl

theorem State.closed_lout_of_few {s : State} (hc : s.conflicts = false) (inp : StrobeInput) :
    (s.closed inp).lout =
      if s.station.listened.isOver then .released else if s.station.clashes then .released else s.lout := by
  rw [State.closed_lout, State.listened_lout, State.listened_station, State.echoed_station, State.echoed_lout, hc]
  rfl

/-- A lane test is found running by the transmitter only where one ran before the strobe. -/
theorem State.composed_station_ne_test {s : State} (inp : StrobeInput)
    (htest : ∀ test, s.station ≠ .withdrawn (some test)) (test : LaneTest) :
    (s.composed inp).station ≠ .withdrawn (some test) := by
  have hclosed : (s.closed inp).station ≠ .withdrawn (some test) := by
    rcases Bool.eq_false_or_eq_true s.conflicts with hc | hc
    · rw [State.closed_station_of_conflicts hc]
      nofun
    · rw [State.closed_station_of_few hc]
      rcases s.station.settled_cases with h | ⟨_, h⟩
      · rw [h]
        exact htest test
      · exact h test
  rw [State.composed_station, State.checked]
  rw [← State.claimed_station] at hclosed
  cases hst : (s.claimed inp).station with
  | withdrawing timer =>
    by_cases hfree : (s.claimed inp).heldPorts = 0
    · rw [withdrawalPass_of_free hst hfree]
      nofun
    · rcases Nat.lt_or_ge (timer + 1) 30000 with ht | ht
      · rw [withdrawalPass_of_held hst hfree ht]
        nofun
      · rw [withdrawalPass_of_denied hst hfree ht]
        nofun
  | _ =>
    rw [withdrawalPass_of_other (by rw [hst]; nofun), Work.silent_st]
    exact hclosed

theorem State.judged_lout_of_plain {s : State} (inp : StrobeInput)
    (htest : ∀ test, s.station ≠ .withdrawn (some test)) : (s.judged inp).lout = (s.closed inp).lout := by
  have hcomposed := State.composed_station_ne_test inp htest
  rcases testPass_cases (s.composed inp) with ⟨test, hst, _⟩ | ⟨test, hst, _⟩ | ⟨_, h⟩
  · exact absurd hst (hcomposed test)
  · exact absurd hst (hcomposed test)
  · rw [State.judged, h, Work.silent_st, State.composed_lout]

/-- The end of a lane test releases LOUT (R153). -/
theorem State.judged_lout_of_test {s : State} {inp : StrobeInput} {test after : LaneTest}
    (hst : s.station = .withdrawn (some test))
    (hafter : after = test.judge (testVerdict s.sent (s.lanes.get s.stationNumber).frame))
      (hless : test.judged < test.sent)
    (hlimit : 4 ≤ after.judged) : (s.judged inp).lout = .released := by
  obtain ⟨hcomposed, hverdict⟩ := State.composed_test inp hst
  unfold State.judged
  rcases testPass_cases (s.composed inp) with ⟨test', hst', _, _, h⟩ | ⟨test', hst', _, hfew, _⟩ | ⟨hdone, _⟩
  · rw [h]
  · rw [hcomposed] at hst'
    cases hst'
    rw [hverdict, ← hafter] at hfew
    omega
  · have := hdone test hcomposed
    omega

/-! ## The frame (R5 to R7, R113) -/

/-- A strobe at which the station state sends nothing. -/
theorem State.afterStrobe_of_silent {s : State} {inp : StrobeInput} (htakes : s.takesStrobes)
    (h : sendsNothing (s.judged inp).station = true) :
    (s.afterStrobe inp).sent = none ∧ (s.afterStrobe inp).lout = (s.judged inp).lout
      ∧ (s.afterStrobe inp).sequence = s.sequence ∧ (s.afterStrobe inp).history = s.history := by
  have hnone := (State.frameContent_eq_none_iff _).mpr h
  have htransmit := congrArg Work.st (transmitPass_of_none hnone)
  rw [s.afterStrobe_sent inp htakes, s.afterStrobe_lout inp htakes, s.afterStrobe_sequence inp htakes,
    s.afterStrobe_history inp htakes, State.transmitted, htransmit]
  exact ⟨rfl, rfl, s.judged_sequence inp, s.judged_history inp⟩

/-- A strobe at which the station state sends a frame. -/
theorem State.afterStrobe_of_frame {s : State} {inp : StrobeInput} (htakes : s.takesStrobes) {content : FrameContent}
    (h : (s.judged inp).frameContent = some content) :
    (s.afterStrobe inp).sent = some (frameBytes s.stationNumber s.sequence content)
      ∧ (s.afterStrobe inp).lout = .driven (frameBytes s.stationNumber s.sequence content)
      ∧ (s.afterStrobe inp).sequence = s.sequence + 1
      ∧ (s.afterStrobe inp).history = (s.transmitted inp).history := by
  have htransmit := congrArg Work.st (transmitPass_of_frame h)
  rw [s.afterStrobe_sent inp htakes, s.afterStrobe_lout inp htakes, s.afterStrobe_sequence inp htakes,
    s.afterStrobe_history inp htakes]
  refine ⟨?_, ?_, ?_, rfl⟩ <;> rw [State.transmitted, htransmit]
  · simp only [Work.silent_st, State.judged_stationNumber, State.judged_sequence]
  · simp only [Work.silent_st, State.judged_stationNumber, State.judged_sequence]
  · simp only [Work.silent_st, State.judged_sequence]

/-- A frame that is not NORMAL is not recorded (R113). -/
theorem State.afterStrobe_history_of_inactive {s : State} {inp : StrobeInput} (htakes : s.takesStrobes)
    (h : (s.judged inp).active = false) : (s.afterStrobe inp).history = s.history := by
  rw [s.afterStrobe_history inp htakes, State.transmitted_history, h]
  rfl

theorem frameContent_of_closing {s : State} {cause : ClosingCause} {finals : Nat}
    (h : s.station = .closing cause finals) :
    s.frameContent = some finalContent := by
  simp only [State.frameContent, h]

theorem frameContent_of_test {s : State} {test : LaneTest} (h : s.station = .withdrawn (some test)) :
    s.frameContent = some (testContent test.sent) := by
  simp only [State.frameContent, h]

theorem frameContent_of_active {s : State} (h : s.active = true) : s.frameContent = some s.normalContent := by
  rcases s.active_iff.mp h with hst | ⟨timer, hst⟩ <;> simp only [State.frameContent, hst]

/-- The kind and the withdrawing flag of a frame laid out (R175). -/
theorem frameBytes_kind (station : Fin 16) (sequence : Seq) (c : FrameContent) :
    byteAt (frameBytes station sequence c) 1 = BitVec.ofNat 8 c.kind := rfl

theorem frameBytes_withdrawing (station : Fin 16) (sequence : Seq) (c : FrameContent) :
    byteAt (frameBytes station sequence c) 6 = if c.withdrawing then 1 else 0 := rfl

end Sys2Proof.Machine
end

section
/-! The station at a taken strobe: the listen window, the echo check, CLOSING and the lane test (R16, R19, R20, R147,
R152, R153). -/

namespace Sys2Proof.Machine

/-! ## What the statements share -/

theorem State.strobeWhen_of_due {s : State} {inp : StrobeInput} {due : State → State → Bool}
    (h : due s (s.afterStrobe inp) = true) : s.strobeWhen inp due = s.afterStrobe inp := if_pos h

/-- An event of a pass is told. -/
theorem State.told_of_pass {s : State} {inp : StrobeInput} (htakes : s.takesStrobes) {w : Work} {e : Event}
    (hpass : w.chains ∈ s.strobeChains inp) {chain : List Event} (hchain : chain ∈ w.chains) (he : e ∈ chain) :
    (s.afterStrobe inp).told e := s.afterStrobe_told inp htakes e ⟨_, hpass, chain, hchain, he⟩

theorem State.afterStrobe_active_judged {s : State} {inp : StrobeInput} (htakes : s.takesStrobes) :
    (s.afterStrobe inp).active = (s.judged inp).active := by
  rw [s.afterStrobe_active inp htakes, s.judged_active inp]

/-- Returns are built on a RUNNING or WITHDRAWING station alone (R117). -/
theorem State.afterStrobe_silent_returns {s : State} {inp : StrobeInput} (htakes : s.takesStrobes)
    (h : (s.judged inp).active = false) (p : Fin 8) : (s.afterStrobe inp).output.get p = Block.zero := by
  have hactive : (s.statused inp).active = false := by
    rw [State.active_of_station (s.statused_station inp), ← s.judged_active inp, h]
  rw [s.afterStrobe_output inp htakes, State.returned_output, State.builds, hactive]
  rfl

/-- The claims are those that the withdrawal check leaves. -/
theorem State.afterStrobe_claims {s : State} {inp : StrobeInput} (htakes : s.takesStrobes) (p : Fin 8) :
    ((s.afterStrobe inp).ports.get p).holder = ((s.checked inp).ports.get p).holder
      ∧ ((s.afterStrobe inp).ports.get p).queue = ((s.checked inp).ports.get p).queue := by
  obtain ⟨_, hholder, hqueue, _⟩ := s.cadenced_claims inp p
  rw [s.afterStrobe_ports inp htakes]
  exact ⟨hholder, hqueue⟩

/-- Where no claim update is due, the claims are those that the listen window leaves (R90). -/
theorem State.checked_port_of_inactive {s : State} {inp : StrobeInput} (h : (s.closed inp).active = false) (p : Fin 8) :
    (s.checked inp).ports.get p = (s.listened inp).ports.get p := by
  have hcloses : (s.claimed inp).closesNow = false := by
    have hflag : (s.claimed inp).withdrawingFlag = false := by
      rw [← State.active_of_station (s.claimed_station inp)] at h
      unfold State.withdrawingFlag
      unfold State.active at h
      split <;> simp_all
    rw [State.closesNow, hflag, Bool.false_and]
  rw [State.checked_port, hcloses, State.claimed_port, h]
  rfl

/-- The entry to CONFLICT empties the claims (R20). -/
theorem State.listened_claims_of_conflict {s : State} {inp : StrobeInput}
    (h : s.conflicts = true ∨ s.conflicts = false ∧ s.station.clashes = true) (p : Fin 8) :
    ((s.listened inp).ports.get p).holder = none ∧ ((s.listened inp).ports.get p).queue = [] := by
  rw [State.listened_port, State.echoed_station, State.echoed_port]
  rcases h with hc | ⟨hc, hclash⟩
  · simp [hc, Station.clashes, Port.emptyClaims]
  · simp [hc, hclash, Port.emptyClaims]

/-- What the entry to CONFLICT leaves (R20). -/
theorem State.afterStrobe_of_conflict {s : State} {inp : StrobeInput} (htakes : s.takesStrobes)
    (h : s.conflicts = true ∨ s.conflicts = false ∧ s.station.clashes = true) :
    (s.afterStrobe inp).station = .conflict ∧ (s.afterStrobe inp).lout = .released ∧ (s.afterStrobe inp).sent = none
      ∧ (s.afterStrobe inp).sequence = s.sequence ∧ (s.afterStrobe inp).history = s.history
      ∧ (∀ p, ((s.afterStrobe inp).ports.get p).holder = none ∧ ((s.afterStrobe inp).ports.get p).queue = [])
      ∧ ∀ p, (s.afterStrobe inp).output.get p = Block.zero := by
  have hclosed : (s.closed inp).station = .conflict ∧ (s.closed inp).lout = .released := by
    rcases h with hc | ⟨hc, hclash⟩
    · exact ⟨State.closed_station_of_conflicts hc inp, State.closed_lout_of_conflicts hc inp⟩
    · rw [State.closed_station_of_few hc, State.closed_lout_of_few hc]
      unfold Station.clashes at hclash ⊢
      split at hclash
      next quiet hst => rw [hst]; exact ⟨rfl, rfl⟩
      · cases hclash
  have htest : ∀ test, s.station ≠ .withdrawn (some test) := by
    intro test hst
    rcases h with hc | ⟨_, hclash⟩
    · have := State.judges_of_conflicts hc
      simp [State.judges, hst] at this
    · rw [hst] at hclash
      cases hclash
  have hjudged : (s.judged inp).station = .conflict := State.judged_station_of_closed hclosed.1 nofun nofun
  have hactive : (s.judged inp).active = false := by simp [State.active, hjudged]
  obtain ⟨hsent, hlout, hsequence, hhistory⟩ := State.afterStrobe_of_silent htakes (by rw [hjudged]; rfl)
  refine ⟨State.afterStrobe_station_of_judged htakes hjudged, ?_, hsent, hsequence, hhistory, fun p => ?_,
    State.afterStrobe_silent_returns htakes hactive⟩
  · rw [hlout, State.judged_lout_of_plain inp htest, hclosed.2]
  · obtain ⟨hholder, hqueue⟩ := State.afterStrobe_claims htakes p
    have hinactive : (s.closed inp).active = false := by simp [State.active, hclosed.1]
    rw [hholder, hqueue, State.checked_port_of_inactive hinactive]
    exact State.listened_claims_of_conflict h p

/-- A strobe in a state that sends nothing and is left by no pass but the listen window. -/
theorem State.afterStrobe_of_quiet {s : State} {inp : StrobeInput} (htakes : s.takesStrobes) (hj : ¬s.judges)
    {st : Station} (hst : s.station.listened.closedOut = st) (hquiet : sendsNothing st = true)
    (hafter : st.afterSending = st) (hwithdrawing : ∀ timer, s.station ≠ .withdrawing timer)
    (htest : ∀ test, s.station ≠ .withdrawn (some test)) (hclash : s.station.clashes = false)
    (hover : s.station.listened.isOver = false) :
    (s.afterStrobe inp).station = st ∧ (s.afterStrobe inp).sequence = s.sequence ∧ (s.afterStrobe inp).sent = none
      ∧ (s.afterStrobe inp).lout = s.lout := by
  have hc := State.conflicts_eq_false_of_not_judges hj
  have hjudged : (s.judged inp).station = st := (State.judged_station_of_plain inp hc hwithdrawing htest).trans hst
  obtain ⟨hsent, hlout, hsequence, _⟩ := State.afterStrobe_of_silent htakes (by rw [hjudged]; exact hquiet)
  refine ⟨(State.afterStrobe_station_of_judged htakes hjudged).trans hafter, hsequence, hsent, ?_⟩
  rw [hlout, State.judged_lout_of_plain inp htest, State.closed_lout_of_few hc, hclash, hover]
  rfl

/-- A strobe that makes or keeps the station RUNNING sends a NORMAL frame. -/
theorem State.afterStrobe_of_running {s : State} {inp : StrobeInput} (htakes : s.takesStrobes)
    (h : (s.judged inp).station = .running) :
    (s.afterStrobe inp).station = .running ∧ (s.afterStrobe inp).sequence = s.sequence + 1
      ∧ ∃ frame, (s.afterStrobe inp).sent = some frame ∧ (s.afterStrobe inp).lout = .driven frame
        ∧ byteAt frame 1 = 1 ∧ byteAt frame 6 = 0 := by
  have hcontent : (s.judged inp).frameContent = some (s.judged inp).normalContent := by
    simp only [State.frameContent, h]
  have hflag : (s.judged inp).withdrawingFlag = false := by simp [State.withdrawingFlag, h]
  obtain ⟨hsent, hlout, hsequence, _⟩ := State.afterStrobe_of_frame htakes hcontent
  refine ⟨State.afterStrobe_station_of_judged htakes h, hsequence, _, hsent, hlout, frameBytes_kind _ _ _, ?_⟩
  rw [frameBytes_withdrawing, State.normalContent, hflag]
  rfl

/-! ## The listen window (R19) -/

/-- Settles O38. -/
theorem theListenWindowEnds : Obligations.TheListenWindowEnds := by
  intro s inp hreset
  have hopen : ∀ quiet heard, s.station = .starting quiet heard → s.takesStrobes ∧ ¬s.judges
      ∧ (∀ timer, s.station ≠ .withdrawing timer) ∧ ∀ test, s.station ≠ .withdrawn (some test) := by
    intro quiet heard hst
    simp [State.takesStrobes, State.judges, hst, hreset]
  refine ⟨fun heard hst => ?_, fun quiet hst hfew => ?_, fun hst => ?_, fun quiet hst => ?_⟩
  · obtain ⟨htakes, hj, hwithdrawing, htest⟩ := hopen _ _ hst
    exact ⟨_, rfl, State.afterStrobe_of_quiet htakes hj (by rw [hst]; rfl) rfl rfl hwithdrawing htest (by rw [hst]; rfl)
      (by rw [hst]; rfl)⟩
  · obtain ⟨htakes, hj, hwithdrawing, htest⟩ := hopen _ _ hst
    have hlistened : s.station.listened = .starting (some (quiet + 1)) false := by
      rw [hst]
      exact if_neg (by omega)
    exact ⟨_, rfl, State.afterStrobe_of_quiet htakes hj (by rw [hlistened]; rfl) rfl rfl hwithdrawing htest
      (by rw [hst]; rfl) (by rw [hlistened]; rfl)⟩
  · obtain ⟨htakes, hj, hwithdrawing, htest⟩ := hopen _ _ hst
    have hc := State.conflicts_eq_false_of_not_judges hj
    have hjudged : (s.judged inp).station = .running := by
      rw [State.judged_station_of_plain inp hc hwithdrawing htest, hst]
      rfl
    obtain ⟨hrunning, hsequence, frame, hsent, hlout, hkind, _⟩ := State.afterStrobe_of_running htakes hjudged
    refine ⟨s.afterStrobe inp, frame, congrArg Host.Outcome.next (State.strobeWhen_of_due ?_), rfl, hrunning,
      hsequence, hsent, hlout, hkind, ?_⟩
    · simp only [State.stationName, hst, hrunning]
      decide
    · refine State.told_of_pass htakes (w := listenPass (s.echoed inp)) (by simp [State.strobeChains])
        (chain := [.stationRunning s.sequence]) ?_ (List.mem_singleton_self _)
      have hechoed : (s.echoed inp).station = .starting (some 15) false := by
        rw [State.echoed_station, hc, hst]
        rfl
      simp [listenPass, hechoed]
  · obtain ⟨htakes, hj, hwithdrawing, htest⟩ := hopen _ _ hst
    have hc := State.conflicts_eq_false_of_not_judges hj
    obtain ⟨hconflict, hlout, hsent, hsequence, _, hclaims, hsilent⟩ :=
      State.afterStrobe_of_conflict (inp := inp) htakes (.inr ⟨hc, by rw [hst]; rfl⟩)
    refine ⟨_, rfl, hconflict, hlout, hsent, hsequence, ?_, hclaims, hsilent⟩
    refine State.told_of_pass htakes (w := listenPass (s.echoed inp)) (by simp [State.strobeChains])
      (chain := [.laneConflict s.stationNumber .listen]) ?_ (List.mem_singleton_self _)
    have hechoed : (s.echoed inp).station = .starting (some quiet) true := by
      rw [State.echoed_station, hc, hst]
      rfl
    simp [listenPass, hechoed]

/-! ## The echo check (R16, R20) -/

theorem State.verdict_of_sent {s : State} (hj : s.judges) {frame : List Byte} (hsent : s.sent = some frame) :
    ((s.lanes.get s.stationNumber).frame = some { bytes := frame, cls := .good } → s.verdict = .matched)
      ∧ ((s.lanes.get s.stationNumber).frame ≠ some { bytes := frame, cls := .good } → s.verdict = .mismatched) := by
  rw [State.verdict_of_judges hj, hsent]
  refine ⟨fun h => if_pos ((echoMatches_eq_true_iff _ _).mpr h), fun h => if_neg fun hm => ?_⟩
  exact h ((echoMatches_eq_true_iff _ _).mp hm)

theorem State.verdict_of_unsent {s : State} (h : s.sent = none ∨ ¬s.judges) : s.verdict = .notJudged := by
  by_cases hj : s.judges
  · rw [State.verdict_of_judges hj, h.resolve_right (not_not_intro hj)]
  · exact State.verdict_of_not_judges hj

/-- A state that judges and sees no third mismatch enters no CONFLICT, and RUNNING stays (R20, R142). -/
theorem State.afterStrobe_station_of_few {s : State} {inp : StrobeInput} (htakes : s.takesStrobes)
    (hc : s.conflicts = false) :
    (s.judges → (s.afterStrobe inp).station ≠ .conflict) ∧
      (s.station = .running → (s.afterStrobe inp).station = .running) := by
  have hrunning : s.station = .running → (s.afterStrobe inp).station = .running := by
    intro hst
    have hjudged : (s.judged inp).station = .running := by
      rw [State.judged_station_of_plain inp hc (by rw [hst]; nofun) (by rw [hst]; nofun), hst]
      rfl
    exact State.afterStrobe_station_of_judged htakes hjudged
  refine ⟨?_, hrunning⟩
  rintro (hst | ⟨timer, hst⟩ | ⟨cause, finals, hst, hfinals⟩)
  · rw [hrunning hst]
    nofun
  · rw [State.afterStrobe_station_of_judged htakes (State.judged_station_of_withdrawing inp hc hst)]
    split_ifs <;> nofun
  · have hjudged : (s.judged inp).station = .closing cause finals := by
      rw [State.judged_station_of_plain inp hc (by rw [hst]; nofun) (by rw [hst]; nofun), hst]
      exact if_pos hfinals
    rw [State.afterStrobe_station_of_judged htakes hjudged]
    nofun

theorem State.afterStrobe_echoes {s : State} {inp : StrobeInput} (htakes : s.takesStrobes) :
    (s.afterStrobe inp).echoMismatch =
      match s.verdict with
      | .notJudged => s.echoMismatch
      | .matched => 0
      | .mismatched => s.echoMismatch + 1 := by
  rw [s.afterStrobe_echoMismatch inp htakes]
  exact s.echoed_echoMismatch inp

/-- Settles O39, by the verdict on the echo. -/
theorem echoMismatchesLeadToConflict : Obligations.EchoMismatchesLeadToConflict := by
  intro s inp hreset
  refine ⟨fun frame hsent hjudges => ?_, fun huntimed hunjudged => ?_⟩
  · have hj : s.judges := hjudges
    have htakes : s.takesStrobes := by
      refine ⟨hreset, fun hst => ?_⟩
      simp [State.judges, hst] at hj
    obtain ⟨hmatch, hmismatch⟩ := State.verdict_of_sent hj hsent
    refine ⟨fun hframe => ?_, fun hframe => ⟨fun hfew => ?_, fun htwo => ?_⟩⟩
    · have hv := hmatch hframe
      obtain ⟨hstation, hrunning⟩ :=
        State.afterStrobe_station_of_few (inp := inp) htakes (State.conflicts_eq_false (by simp [hv]))
      exact ⟨_, rfl, by rw [State.afterStrobe_echoes htakes, hv], hstation hj, hrunning⟩
    · have hv := hmismatch hframe
      obtain ⟨hstation, hrunning⟩ :=
        State.afterStrobe_station_of_few (inp := inp) htakes (State.conflicts_eq_false fun _ => hfew)
      exact ⟨_, rfl, by rw [State.afterStrobe_echoes htakes, hv], hstation hj, hrunning⟩
    · have hv := hmismatch hframe
      have hc : s.conflicts = true := s.conflicts_eq_true_iff.mpr ⟨hv, by omega⟩
      obtain ⟨hconflict, hlout, hunsent, hsequence, hhistory, hclaims, hsilent⟩ :=
        State.afterStrobe_of_conflict (inp := inp) htakes (.inl hc)
      refine ⟨s.afterStrobe inp, congrArg Host.Outcome.next (State.strobeWhen_of_due ?_), rfl, hconflict, ?_, hlout,
        hunsent, hsequence, ?_, hclaims,
        hsilent, hhistory⟩
      · have hafter : (s.afterStrobe inp).stationName = .conflict :=
          by simp [State.stationName, Station.name, hconflict]
        rw [hafter]
        rcases hj with hst | ⟨timer, hst⟩ | ⟨cause, finals, hst, _⟩ <;> simp [State.stationName, Station.name, hst]
      · rw [State.afterStrobe_echoes htakes, hv, htwo]
      · refine State.told_of_pass htakes (w := echoPass s.verdict (s.faulted inp)) (by simp [State.strobeChains])
          (chain := [.laneConflict s.stationNumber .echo]) ?_ (List.mem_singleton_self _)
        rw [hv, echoPass_of_limit (by simp [htwo])]
        simp
  · have htakes : s.takesStrobes := ⟨hreset, huntimed⟩
    have hv := State.verdict_of_unsent hunjudged
    have hc : s.conflicts = false := State.conflicts_eq_false (by simp [hv])
    refine ⟨_, rfl, by rw [State.afterStrobe_echoes htakes, hv], (State.afterStrobe_station_of_few htakes hc).2, ?_⟩
    intro hst
    have hj : ¬s.judges := by rcases hst with hst | hst <;> simp [State.judges, hst]
    have hquiet : (s.afterStrobe inp).station = s.station ∧ (s.afterStrobe inp).sequence = s.sequence
        ∧ (s.afterStrobe inp).sent = none ∧ (s.afterStrobe inp).lout = s.lout := by
      rcases hst with hst | hst
      · exact State.afterStrobe_of_quiet htakes hj (by rw [hst]; rfl) (by rw [hst]; rfl) (by rw [hst]; rfl)
          (by rw [hst]; nofun) (by rw [hst]; nofun) (by rw [hst]; rfl) (by rw [hst]; rfl)
      · exact State.afterStrobe_of_quiet htakes hj (by rw [hst]; rfl) (by rw [hst]; rfl) (by rw [hst]; rfl)
          (by rw [hst]; nofun) (by rw [hst]; nofun) (by rw [hst]; rfl) (by rw [hst]; rfl)
    obtain ⟨hstation, hsequence, hsent, hlout⟩ := hquiet
    exact ⟨hstation, hlout, hsent, hsequence⟩

end Sys2Proof.Machine
end

section
/-! CLOSING and the lane test at a taken strobe (R147, R152, R153). -/

namespace Sys2Proof.Machine

/-! ## The contents -/

theorem testContent_descriptors (i : Nat) : (testContent i).descriptors = List.replicate 16 [0, 0, 0, 0] := by
  simp only [testContent, List.map_const', List.length_finRange]

theorem testContent_samples {i : Nat} {channel : Fin 16} {b : Block}
    (h : (testContent i).samples[channel.val]? = some b)
    (n : Fin 16) : b.get n = 65536 * i + 256 * channel.val + n.val := by
  have hb : testBlock i channel = b := by
    simpa [testContent, List.getElem?_map] using h
  rw [← hb, testBlock, tab_get]

/-! ## The judgement of a TEST frame's echo (R153) -/

/-- The test record after a judgement, by the echo. -/
theorem LaneTest.judge_eq (test : LaneTest) {sent : Option (List Byte)} {own : Option Received}
    {missing differing : Nat}
    (hmissing : missing = test.missing + (if own = none then 1 else 0))
    (hdiffering : differing = test.differing + (match (generalizing := false) own with
      | some r => if r.cls = .testFrame ∧ sent = some r.bytes then 0 else 1
      | none => 0)) :
    test.judge (testVerdict sent own) =
      { sent := test.sent, judged := test.judged + 1, missing := missing, differing := differing } := by
  subst hmissing hdiffering
  cases own with
  | none => simp [testVerdict, LaneTest.judge]
  | some r =>
    by_cases h : r.cls = .testFrame ∧ sent = some r.bytes
    · simp [testVerdict, LaneTest.judge, h]
    · have hdiffers : (r.cls == .testFrame && sent == some r.bytes) = false := by
        simpa [Bool.and_eq_true, beq_iff_eq] using h
      simp [testVerdict, LaneTest.judge, hdiffers, h]

/-- A strobe of CLOSING at which a FINAL frame is sent. -/
theorem State.afterStrobe_of_final {s : State} {inp : StrobeInput} (htakes : s.takesStrobes) {cause : ClosingCause}
    {finals : Nat} (h : (s.judged inp).station = .closing cause finals) :
    (s.afterStrobe inp).station = .closing cause (finals + 1) ∧ (s.afterStrobe inp).sequence = s.sequence + 1
      ∧ (s.afterStrobe inp).history = s.history
      ∧ (s.afterStrobe inp).sent = some (frameBytes s.stationNumber s.sequence finalContent)
      ∧ (s.afterStrobe inp).lout = .driven (frameBytes s.stationNumber s.sequence finalContent) := by
  obtain ⟨hsent, hlout, hsequence, _⟩ := State.afterStrobe_of_frame htakes (frameContent_of_closing h)
  exact ⟨State.afterStrobe_station_of_judged htakes h, hsequence,
    State.afterStrobe_history_of_inactive htakes (by simp [State.active, h]), hsent, hlout⟩

/-- A strobe of a lane test at which a TEST frame is sent. -/
theorem State.afterStrobe_of_testFrame {s : State} {inp : StrobeInput} (htakes : s.takesStrobes) {test : LaneTest}
    (h : (s.judged inp).station = .withdrawn (some test)) :
    (s.afterStrobe inp).station = .withdrawn (some { test with sent := test.sent + 1 })
      ∧ (s.afterStrobe inp).sequence = s.sequence + 1 ∧ (s.afterStrobe inp).history = s.history
      ∧ (s.afterStrobe inp).sent = some (frameBytes s.stationNumber s.sequence (testContent test.sent))
      ∧ (s.afterStrobe inp).lout = .driven (frameBytes s.stationNumber s.sequence (testContent test.sent)) := by
  obtain ⟨hsent, hlout, hsequence, _⟩ := State.afterStrobe_of_frame htakes (frameContent_of_test h)
  exact ⟨State.afterStrobe_station_of_judged htakes h, hsequence,
    State.afterStrobe_history_of_inactive htakes (by simp [State.active, h]), hsent, hlout⟩

/-- A strobe that leaves the station WITHDRAWN with no test. -/
theorem State.afterStrobe_of_withdrawn {s : State} {inp : StrobeInput} (htakes : s.takesStrobes)
    (h : (s.judged inp).station = .withdrawn none) (hlout : (s.judged inp).lout = .released) :
    (s.afterStrobe inp).station = .withdrawn none ∧ (s.afterStrobe inp).sequence = s.sequence
      ∧ (s.afterStrobe inp).sent = none ∧ (s.afterStrobe inp).lout = .released := by
  obtain ⟨hsent, hafter, hsequence, _⟩ := State.afterStrobe_of_silent htakes (by rw [h]; rfl)
  exact ⟨State.afterStrobe_station_of_judged htakes h, hsequence, hsent, hafter.trans hlout⟩

/-- The end of CLOSING (R147). -/
theorem State.closing_completes {s : State} {inp : StrobeInput} (hreset : s.inReset = false) {cause : ClosingCause}
    (hst : s.station = .closing cause 8) :
    ∃ t, exec (.finalCountComplete inp) s = .next t ∧ exec (.blockStrobe inp) s = .next t
      ∧ t.station = .withdrawn none ∧ t.sequence = s.sequence ∧ t.sent = none ∧ t.lout = .released
      ∧ t.told (.withdrawDone cause 8) := by
  have htakes : s.takesStrobes := ⟨hreset, by rw [hst]; nofun⟩
  have hc : s.conflicts = false := State.conflicts_eq_false_of_not_judges (by simp [State.judges, hst])
  have hlistened : s.station.listened = .closing cause 8 := by rw [hst]; rfl
  have hjudged : (s.judged inp).station = .withdrawn none := by
    rw [State.judged_station_of_plain inp hc (by rw [hst]; nofun) (by rw [hst]; nofun), hlistened]
    rfl
  have hlout : (s.judged inp).lout = .released := by
    rw [State.judged_lout_of_plain inp (by rw [hst]; nofun), State.closed_lout_of_few hc, hlistened]
    rfl
  obtain ⟨hstation, hsequence, hsent, hreleased⟩ := State.afterStrobe_of_withdrawn htakes hjudged hlout
  refine ⟨s.afterStrobe inp, congrArg Host.Outcome.next (State.strobeWhen_of_due ?_), rfl, hstation, hsequence, hsent,
    hreleased, ?_⟩
  · simp [State.stationName, Station.name, hst, hstation]
  · refine State.told_of_pass htakes (w := closedPass (s.listened inp)) (by simp [State.strobeChains])
      (chain := [.withdrawDone cause 8]) ?_ (List.mem_singleton_self _)
    have hafter : (s.listened inp).station = .closing cause 8 := by
      rw [State.listened_station, State.echoed_station, hc]
      exact hlistened
    simp [closedPass, hafter]

/-- The end of a lane test (R153). -/
theorem State.test_completes {s : State} {inp : StrobeInput} (hreset : s.inReset = false) {test after : LaneTest}
    (hst : s.station = .withdrawn (some test))
    (hafter : after = test.judge (testVerdict s.sent (s.lanes.get s.stationNumber).frame))
      (hless : test.judged < test.sent)
    (hfourth : 4 ≤ after.judged) :
    ∃ t, exec (.laneTestComplete inp) s = .next t ∧ exec (.blockStrobe inp) s = .next t
      ∧ t.station = .withdrawn none ∧ t.sequence = s.sequence ∧ t.sent = none ∧ t.lout = .released
      ∧ t.told (.testDone s.stationNumber after.result after.matched) := by
  have htakes : s.takesStrobes := ⟨hreset, by rw [hst]; nofun⟩
  have hjudged : (s.judged inp).station = .withdrawn none := by
    rw [State.judged_station_of_test inp hst hafter, if_pos hless, if_pos hfourth]
  obtain ⟨hstation, hsequence, hsent, hreleased⟩ :=
    State.afterStrobe_of_withdrawn htakes hjudged (State.judged_lout_of_test hst hafter hless hfourth)
  refine ⟨s.afterStrobe inp, congrArg Host.Outcome.next (State.strobeWhen_of_due ?_), rfl, hstation, hsequence, hsent,
    hreleased, ?_⟩
  · simp [hst, hstation]
  · refine State.told_of_pass htakes (w := testPass (s.composed inp)) (by simp [State.strobeChains])
      (chain := [.testDone s.stationNumber after.result after.matched]) ?_ (List.mem_singleton_self _)
    obtain ⟨hcomposed, hverdict⟩ := State.composed_test inp hst
    simp only [testPass, hcomposed, if_pos hless, hverdict, ← hafter, if_pos hfourth]
    simp only [State.composed_stationNumber, List.mem_singleton]

/-- Settles O40. -/
theorem closingsAndLaneTestsComplete : Obligations.ClosingsAndLaneTestsComplete := by
  refine ⟨rfl, fun i => ⟨rfl, rfl, rfl, rfl, rfl, testContent_descriptors i, rfl, fun channel b hb n =>
    testContent_samples hb n⟩, fun s inp hreset => ⟨fun cause finals hst hfinals hfew => ?_,
    fun cause hst => State.closing_completes hreset hst, fun test missing differing hst hmissing hdiffering => ?_⟩⟩
  · have htakes : s.takesStrobes := ⟨hreset, by rw [hst]; nofun⟩
    have hjudged : (s.judged inp).station = .closing cause finals := by
      rw [State.judged_station_of_plain inp (State.conflicts_eq_false hfew) (by rw [hst]; nofun) (by rw [hst]; nofun),
        hst]
      exact if_pos hfinals
    exact ⟨_, rfl, State.afterStrobe_of_final htakes hjudged⟩
  · have htakes : s.takesStrobes := ⟨hreset, by rw [hst]; nofun⟩
    have hafter := (test.judge_eq hmissing hdiffering).symm
    have hjudged := State.judged_station_of_test inp hst hafter
    refine ⟨fun hunsent hunjudged => ?_, fun hless hfew => ?_, fun hthird hfourth => ?_⟩
    · rw [if_neg (by omega)] at hjudged
      have hframe := State.afterStrobe_of_testFrame htakes hjudged
      rw [hunsent] at hframe
      exact ⟨_, rfl, hframe⟩
    · rw [if_pos hless, if_neg (by simp; omega)] at hjudged
      exact ⟨_, rfl, State.afterStrobe_of_testFrame htakes hjudged⟩
    · have hcomplete := State.test_completes (inp := inp) hreset hst hafter (by omega) (by simp [hthird])
      simpa only [LaneTest.result, LaneTest.matched, hthird] using hcomplete

end Sys2Proof.Machine
end

section
/-! The claim update at a taken strobe (R90 to R95, R100, R104). -/

namespace Sys2Proof.Machine

/-! ## What is heard (R91) -/

theorem heardWants_eq_none_iff (s : State) (tag : Tag) (l : Fin 16) :
    heardWants (s.blockFrames s.verdict) tag l = none ↔ ∀ f, s.blockFrame s.verdict l ≠ .valid f := by
  simp only [heardWants, State.blockFrames, tab_get]
  cases s.blockFrame s.verdict l <;> simp

theorem heardWants_of_valid {s : State} {l : Fin 16} {f : Frame} (hf : s.blockFrame s.verdict l = .valid f)
    (tag : Tag) :
    heardWants (s.blockFrames s.verdict) tag l =
      some ((f.wants.filter fun w => w.1.station == l && w.1.kind == .mix && w.2 == tag).map (·.1)) := by
  simp only [heardWants, State.blockFrames, tab_get, hf]

theorem mem_heardWants {s : State} {l : Fin 16} {f : Frame} (hf : s.blockFrame s.verdict l = .valid f) (tag m : Tag) :
    m ∈ (heardWants (s.blockFrames s.verdict) tag l).getD [] ↔ m.station = l ∧ m.kind = .mix ∧ (m, tag) ∈ f.wants := by
  rw [heardWants_of_valid hf, Option.getD_some, List.mem_map]
  simp only [List.mem_filter, Bool.and_eq_true, beq_iff_eq]
  constructor
  · rintro ⟨⟨m', party⟩, ⟨hmem, ⟨hstation, hkind⟩, hparty⟩, rfl⟩
    exact ⟨hstation, hkind, by rw [← hparty]; exact hmem⟩
  · rintro ⟨hstation, hkind, hmem⟩
    exact ⟨(m, tag), ⟨hmem, ⟨hstation, hkind⟩, rfl⟩, rfl⟩

/-! ## One port's update -/

theorem claimGrant_of_held {q : Port} (h : q.holder ≠ none) (running : Bool) : claimGrant running q = q := by
  unfold claimGrant
  split
  next hnone _ => exact absurd hnone h
  · rfl

theorem claimGrant_of_other {q : Port} {running : Bool} (h : running = false ∨ q.state ≠ .air) :
    claimGrant running q = q := by
  unfold claimGrant
  split
  · refine if_neg fun hgrants => ?_
    obtain ⟨hrunning, hair⟩ := Bool.and_eq_true_iff.mp hgrants
    rcases h with h | h
    · rw [h] at hrunning
      cases hrunning
    · exact h (beq_iff_eq.mp hair)
  · rfl

/-- The grant (R95). -/
theorem claimGrant_of_air {q : Port} (hnone : q.holder = none) (hair : q.state = .air) :
    (claimGrant true q).holder = q.queue.head? ∧ (claimGrant true q).queue = q.queue.tail := by
  unfold claimGrant
  split
  next head rest _ hqueue => simp [hair, hqueue]
  next h =>
    cases hqueue : q.queue with
    | nil => simp [hnone]
    | cons head rest => exact absurd hqueue (h head rest hnone)

/-- The claims as the grant finds them: what stands, and the new wants behind it while there is room (R92 to R94). -/
def State.updatedQueue (s : State) (p : Fin 8) (served : Bool) (kept : Option Tag) (waiting : List Tag) : List Tag :=
  if served then
    waiting ++ (mixTagsInOrder.filter fun m => s.asks p m && kept != some m && !waiting.contains m).take
      (4 - waiting.length)
  else waiting

theorem letsGo_eq (s : State) (p : Fin 8) (m : Tag) :
    letsGo (heardWants (s.blockFrames s.verdict) (s.portTag p)) m =
      !((heardWants (s.blockFrames s.verdict) (s.portTag p) m.station).isNone || s.asks p m) := by
  unfold letsGo State.asks
  cases heardWants (s.blockFrames s.verdict) (s.portTag p) m.station <;> simp

theorem State.keepsClaim_eq (s : State) (p : Fin 8) (m : Tag) :
    s.keepsClaim p m = (!letsGo (heardWants (s.blockFrames s.verdict) (s.portTag p)) m
      && !(s.absentLanes (s.blockFrames s.verdict)).get m.station) := by
  rw [letsGo_eq, Bool.not_not, State.keepsClaim, Bool.and_comm]
  simp only [State.absentLanes, State.blockFrames, tab_get]

theorem option_filter_filter {α : Type} (o : Option α) (f g : α → Bool) :
    (o.filter f).filter g = o.filter fun a => g a && f a := by
  cases o with
  | none => rfl
  | some a => cases hf : f a <;> cases hg : g a <;> simp [Option.filter, hf, hg]

/-- Absence, release and removal together (R92 to R94). -/
theorem claimRemoval_release_absence (heard : Fin 16 → Option (List Tag)) (absent : Vector Bool 16) (q : Port) :
    claimRemoval heard (claimRelease heard (claimAbsence absent q)) = { q with
      holder := q.holder.filter fun m => !letsGo heard m && !absent.get m.station
      queue := q.queue.filter fun m => !letsGo heard m && !absent.get m.station } := by
  unfold claimRemoval claimRelease claimAbsence
  rw [option_filter_filter, List.filter_filter]

theorem newWants_eq (s : State) (p : Fin 8) (q : Port) :
    newWants (heardWants (s.blockFrames s.verdict) (s.portTag p)) q =
      mixTagsInOrder.filter fun m => s.asks p m && q.holder != some m && !q.queue.contains m := by
  refine List.filter_congr fun m _ => ?_
  unfold State.asks
  cases heardWants (s.blockFrames s.verdict) (s.portTag p) m.station <;> rfl

/-- The port as the grant finds it. -/
def State.claimsLeft (s : State) (p : Fin 8) (q : Port) : Port :=
  { q with
    holder := q.holder.filter (s.keepsClaim p)
    queue := s.updatedQueue p q.served (q.holder.filter (s.keepsClaim p)) (q.queue.filter (s.keepsClaim p)) }

/-- The update up to the grant. -/
theorem claimUpdate_eq (s : State) (p : Fin 8) (running : Bool) (q : Port) :
    claimUpdate (heardWants (s.blockFrames s.verdict) (s.portTag p))
      (s.absentLanes (s.blockFrames s.verdict)) running q =
      claimGrant running (s.claimsLeft p q) := by
  have hkeeps : (fun m => !letsGo (heardWants (s.blockFrames s.verdict) (s.portTag p)) m
      && !(s.absentLanes (s.blockFrames s.verdict)).get m.station) = s.keepsClaim p :=
    funext fun m => (s.keepsClaim_eq p m).symm
  unfold claimUpdate
  rw [claimRemoval_release_absence, hkeeps]
  congr 1
  unfold claimQueueing State.claimsLeft State.updatedQueue
  rw [newWants_eq]
  have hserved : ({ q with holder := q.holder.filter (s.keepsClaim p), queue := q.queue.filter (s.keepsClaim p) } :
      Port).served
      = q.served := rfl
  rw [hserved]
  split <;> rfl

/-- Every claim after the update stood or is asked for. -/
theorem claimUpdate_sources {s : State} {p : Fin 8} {running : Bool} {q : Port} {m : Tag}
    (hm : (claimUpdate (heardWants (s.blockFrames s.verdict) (s.portTag p)) (s.absentLanes (s.blockFrames s.verdict))
      running q).holder = some m) : s.keepsClaim p m = true ∨ s.asks p m = true := by
  rw [claimUpdate_eq] at hm
  have hqueue : ∀ n ∈ (s.claimsLeft p q).queue, s.keepsClaim p n = true ∨ s.asks p n = true := by
    intro n hn
    simp only [State.claimsLeft, State.updatedQueue] at hn
    have hwaiting : n ∈ q.queue.filter (s.keepsClaim p) → s.keepsClaim p n = true := fun h => (List.mem_filter.mp h).2
    split at hn
    · rcases List.mem_append.mp hn with hn | hn
      · exact .inl (hwaiting hn)
      · have := (List.mem_filter.mp (List.mem_of_mem_take hn)).2
        simp only [Bool.and_eq_true] at this
        exact .inr this.1.1
    · exact .inl (hwaiting hn)
  unfold claimGrant at hm
  split at hm
  next head rest hnone hhead =>
    split at hm
    · cases hm
      exact hqueue m (by rw [hhead]; exact List.mem_cons_self)
    · rw [hnone] at hm
      cases hm
  · exact .inl (Option.filter_eq_some_iff.mp hm).2

/-! ## The ports at the claim update -/

/-- A port that a group fault takes out (R60). -/
def State.forced (s : State) (inp : StrobeInput) (p : Fin 8) : Prop :=
  s.faults inp p = true ∧ (s.ports.get p).state ≠ .outOfService

theorem Port.changeState_outOfService (q : Port) :
    q.changeState .outOfService = { q with
      state := .outOfService, holder := none, queue := [], talkback := false, peak := 0, activity := false, quiet := 0
      armed := false } := by
  simp [Port.changeState, Port.emptyClaims, Port.resetMonitor]

/-- The ports as the claim update finds them, where the station enters no CONFLICT. -/
theorem State.listened_port_of_few {s : State} {inp : StrobeInput} (hc : s.conflicts = false)
    (hclash : s.station.clashes = false) (p : Fin 8) :
    (s.forced inp p → (s.listened inp).ports.get p = (s.ports.get p).changeState .outOfService)
      ∧ (¬s.forced inp p → (s.listened inp).ports.get p = s.ports.get p) := by
  have hlistened : (s.listened inp).ports.get p = (s.faulted inp).ports.get p := by
    rw [State.listened_port, State.echoed_station, State.echoed_port, hc]
    simp [hclash]
  rw [hlistened, State.faulted_port]
  exact ⟨fun h => if_pos h, fun h => if_neg h⟩

/-- A station on which the claim update runs, at a strobe without an entry to CONFLICT (R90). -/
theorem State.closed_active {s : State} (inp : StrobeInput) (hc : s.conflicts = false)
    (h : s.active = true ∨ s.station = .starting (some 15) false) :
    (s.closed inp).active = true ∧ s.station.clashes = false
      ∧ ((∀ timer, s.station ≠ .withdrawing timer) → (s.closed inp).station = .running)
      ∧ ∀ timer, s.station = .withdrawing timer → (s.closed inp).station = .withdrawing timer := by
  have hclosed := State.closed_station_of_few hc inp
  rcases h with hactive | hst
  · rcases s.active_iff.mp hactive with hst | ⟨timer, hst⟩
    · have : (s.closed inp).station = .running := by rw [hclosed, hst]; rfl
      exact ⟨by simp [State.active, this], by rw [hst]; rfl, fun _ => this, fun timer h => by rw [hst] at h; cases h⟩
    · have : (s.closed inp).station = .withdrawing timer := by rw [hclosed, hst]; rfl
      refine ⟨by simp [State.active, this], by rw [hst]; rfl, fun h => absurd hst (h timer), fun timer' h => ?_⟩
      rw [hst] at h
      cases h
      exact this
  · have : (s.closed inp).station = .running := by rw [hclosed, hst]; rfl
    exact ⟨by simp [State.active, this], by rw [hst]; rfl, fun _ => this, fun timer h => by rw [hst] at h; cases h⟩

/-- The claims after the update, before the withdrawal check. -/
theorem State.claimed_port_of_active {s : State} {inp : StrobeInput} (hactive : (s.closed inp).active = true)
    (p : Fin 8) :
    (s.claimed inp).ports.get p =
      claimGrant ((s.closed inp).station == .running) (s.claimsLeft p ((s.listened inp).ports.get p)) := by
  rw [State.claimed_port, if_pos hactive, claimUpdate_eq]

/-- What the claim update leaves of a port's claims, before the grant: nothing on a port that a group fault takes
out. -/
theorem State.claimsLeft_of_forced {s : State} {inp : StrobeInput} (hc : s.conflicts = false)
    (hclash : s.station.clashes = false) {p : Fin 8} (h : s.forced inp p) :
    s.keptHolder inp p = none ∧ (s.claimsLeft p ((s.listened inp).ports.get p)).holder = none
      ∧ (s.claimsLeft p ((s.listened inp).ports.get p)).queue = []
      ∧ (s.claimsLeft p ((s.listened inp).ports.get p)).state = .outOfService := by
  rw [(State.listened_port_of_few hc hclash p).1 h, Port.changeState_outOfService]
  exact ⟨if_pos h, rfl, rfl, rfl⟩

theorem State.claimsLeft_of_unforced {s : State} {inp : StrobeInput} (hc : s.conflicts = false)
    (hclash : s.station.clashes = false) {p : Fin 8} (h : ¬s.forced inp p) :
    (s.claimsLeft p ((s.listened inp).ports.get p)).holder = s.keptHolder inp p
      ∧ (s.claimsLeft p ((s.listened inp).ports.get p)).queue =
          s.updatedQueue p (s.ports.get p).served (s.keptHolder inp p) ((s.ports.get p).queue.filter (s.keepsClaim p))
      ∧ (s.claimsLeft p ((s.listened inp).ports.get p)).state = (s.ports.get p).state := by
  have hkept : s.keptHolder inp p = (s.ports.get p).holder.filter (s.keepsClaim p) := if_neg h
  rw [(State.listened_port_of_few hc hclash p).2 h, hkept]
  exact ⟨rfl, rfl, rfl⟩

/-- A dropped holder is told (R92, R104). -/
theorem State.told_claimDropped {s : State} {inp : StrobeInput} (htakes : s.takesStrobes)
    (hactive : (s.closed inp).active = true) {p : Fin 8} {h : Tag}
      (hholder : ((s.listened inp).ports.get p).holder = some h)
    (habsent : goesAbsent (s.lanes.get h.station) (s.blockFrame s.verdict h.station) = true) :
    (s.afterStrobe inp).told (.claimDropped p h) := by
  have hfiled : (s.filed inp).active = true := (State.active_of_station (s.filed_station inp)).trans hactive
  refine State.told_of_pass htakes
    (w := claimPass (s.blockFrames s.verdict) (s.absentLanes (s.blockFrames s.verdict)) (s.filed inp))
    (by simp [State.strobeChains]) (chain := (List.finRange 8).filterMap fun p =>
      (droppedHolder (s.absentLanes (s.blockFrames s.verdict)) ((s.filed inp).ports.get p)).map fun h =>
        Event.claimDropped p h)
    ?_ ?_
  · simp only [claimPass, hfiled, if_true, List.mem_singleton]
  · refine List.mem_filterMap.mpr ⟨p, List.mem_finRange p, ?_⟩
    have hdropped : droppedHolder (s.absentLanes (s.blockFrames s.verdict)) ((s.filed inp).ports.get p) = some h := by
      rw [droppedHolder, State.filed_ports, hholder, Option.filter_eq_some_iff]
      exact ⟨rfl, by simpa only [State.absentLanes, State.blockFrames, tab_get] using habsent⟩
    rw [hdropped]
    rfl

/-- The withdrawal check that does not close the station leaves the claims alone. -/
theorem State.checked_port_of_open {s : State} {inp : StrobeInput} (h : (s.claimed inp).closesNow = false) (p : Fin 8) :
    (s.checked inp).ports.get p = (s.claimed inp).ports.get p := by
  rw [State.checked_port, h]
  rfl

/-- The withdrawal check closes a WITHDRAWING station alone. -/
theorem State.closesNow_eq_false_of_other {s : State} {inp : StrobeInput}
    (h : ∀ timer, (s.closed inp).station ≠ .withdrawing timer) : (s.claimed inp).closesNow = false := by
  rw [← State.claimed_station] at h
  have hflag : (s.claimed inp).withdrawingFlag = false := by
    unfold State.withdrawingFlag
    split
    next timer hst => exact absurd hst (h timer)
    · rfl
  rw [State.closesNow, hflag, Bool.false_and]

/-- A station that the withdrawal check closes is CLOSING after the strobe. -/
theorem State.afterStrobe_station_of_closesNow {s : State} {inp : StrobeInput} (htakes : s.takesStrobes)
    (h : (s.claimed inp).closesNow = true) : (s.afterStrobe inp).station = .closing .normal 1 := by
  rcases withdrawalPass_cases (s.claimed inp) with ⟨hcn, _⟩ | ⟨_, hst⟩
  · rw [h] at hcn
    cases hcn
  · have hchecked : (s.checked inp).station = .closing .normal 0 := by rw [State.checked, hst]; rfl
    have hjudged : (s.judged inp).station = .closing .normal 0 := by
      rw [State.judged_station_of_other (by rw [hchecked]; nofun), hchecked]
    exact State.afterStrobe_station_of_judged htakes hjudged

/-- Settles O44. -/
theorem strobesUpdateTheClaims : Obligations.StrobesUpdateTheClaims := by
  refine ⟨mixTagsInOrder_pairwise, mem_mixTagsInOrder, fun s inp p hreset hclaims hfew => ?_⟩
  have hc := State.conflicts_eq_false hfew
  obtain ⟨hactive, hclash, hrunning, hwithdrawing⟩ := State.closed_active inp hc hclaims
  have htakes : s.takesStrobes := by
    refine ⟨hreset, fun hst => ?_⟩
    simp [State.active, hst] at hclaims
  obtain ⟨hholder, hqueue⟩ := State.afterStrobe_claims (inp := inp) htakes p
  have hclaimed := State.claimed_port_of_active hactive p
  refine ⟨s.afterStrobe inp, rfl, ?_⟩
  intro before after heard forced kept waiting news queue
  have hleft : (s.claimsLeft p ((s.listened inp).ports.get p)).holder = kept
      ∧ (s.claimsLeft p ((s.listened inp).ports.get p)).queue = queue
      ∧ (¬forced → (s.claimsLeft p ((s.listened inp).ports.get p)).state = before.state)
      ∧ (forced → (s.claimsLeft p ((s.listened inp).ports.get p)).state = .outOfService) := by
    by_cases h : forced
    · obtain ⟨hkept, hnone, hempty, hstate⟩ := State.claimsLeft_of_forced hc hclash h
      refine ⟨hnone.trans hkept.symm, hempty.trans ?_, fun k => absurd h k, fun _ => hstate⟩
      simp [queue, waiting, h]
    · obtain ⟨hkept, hfull, hstate⟩ := State.claimsLeft_of_unforced hc hclash h
      refine ⟨hkept, hfull.trans ?_, fun _ => hstate, fun k => absurd k h⟩
      simp [queue, waiting, news, h, State.updatedQueue, kept, before]
  obtain ⟨hkept, hfull, hstate, hout⟩ := hleft
  refine ⟨fun l => heardWants_eq_none_iff s _ l, fun l f m hf => mem_heardWants hf _ m, fun hother => ?_,
    fun hst hopen => ?_, fun h hh hunforced habsent => ?_⟩
  · have hclosed := hrunning hother
    have hopen := State.closesNow_eq_false_of_other (inp := inp) (by rw [hclosed]; nofun)
    rw [hholder, hqueue, State.checked_port_of_open hopen, hclaimed, hclosed]
    refine ⟨fun hnone hair hunforced => ?_, fun hother => ?_⟩
    · rw [← hfull]
      exact claimGrant_of_air (hkept.trans hnone) ((hstate hunforced).trans hair)
    · have hsame : claimGrant true (s.claimsLeft p ((s.listened inp).ports.get p)) =
          s.claimsLeft p ((s.listened inp).ports.get p) := by
        rcases hother with hheld | hair | hforced
        · exact claimGrant_of_held (by rwa [hkept]) _
        · refine claimGrant_of_other (.inr ?_)
          by_cases h : forced
          · rw [hout h]
            nofun
          · rwa [hstate h]
        · exact claimGrant_of_other (.inr (by rw [hout hforced]; nofun))
      exact ⟨(congrArg Port.holder hsame).trans hkept, (congrArg Port.queue hsame).trans hfull⟩
  · obtain ⟨timer, hst⟩ := hst
    have hnot : (s.claimed inp).closesNow = false := by
      rcases Bool.eq_false_or_eq_true (s.claimed inp).closesNow with hcn | hcn
      · have := State.afterStrobe_station_of_closesNow htakes hcn
        simp [State.stationName, Station.name, this] at hopen
      · exact hcn
    have hsame := claimGrant_of_other (q := s.claimsLeft p ((s.listened inp).ports.get p)) (running := false) (.inl rfl)
    rw [hholder, hqueue, State.checked_port_of_open hnot, hclaimed, hwithdrawing timer hst]
    exact ⟨(congrArg Port.holder hsame).trans hkept, (congrArg Port.queue hsame).trans hfull⟩
  · refine State.told_claimDropped htakes hactive ?_ habsent
    rw [(State.listened_port_of_few hc hclash p).2 hunforced]
    exact hh

end Sys2Proof.Machine
end

section
/-! The lane thresholds and the withdrawal check at a taken strobe (R11, R12, R28, R92, R144). -/

namespace Sys2Proof.Machine

/-! ## ACQUIRE_COMPLETE and MISS_LIMIT -/

theorem State.afterStrobe_receive {s : State} {inp : StrobeInput} (htakes : s.takesStrobes) (l : Fin 16) :
    ((s.afterStrobe inp).lanes.get l).receive = receiveAfter (s.lanes.get l) (s.blockFrame s.verdict l) := by
  rw [s.afterStrobe_lane inp htakes]
  exact laneAfter_receive _ _

theorem State.acquire_completes {s : State} {inp : StrobeInput} (htakes : s.takesStrobes) {l : Fin 16} {previous : Seq}
    {f : Frame} (hf : s.blockFrame s.verdict l = .valid f) (hreceive : (s.lanes.get l).receive = .acquiring previous 2)
    (hseq : f.sequence = previous + 1) :
    ∃ t, exec (.acquireComplete inp l) s = .next t ∧ exec (.blockStrobe inp) s = .next t
      ∧ (t.lanes.get l).receive = .present f.sequence ∧ t.told (.lanePresent l f.sequence) := by
  have hafter : ((s.afterStrobe inp).lanes.get l).receive = .present f.sequence := by
    rw [State.afterStrobe_receive htakes, hf, receiveAfter, hreceive, receiveValid, if_pos hseq]
    rfl
  refine ⟨s.afterStrobe inp, congrArg Host.Outcome.next (State.strobeWhen_of_due ?_), rfl, hafter, ?_⟩
  · simp only [hreceive, hafter]
  · refine State.afterStrobe_told_lane inp htakes l ?_
    rw [hf, laneEvent_present hreceive hseq (by decide)]
    exact List.mem_singleton_self _

/-- A claim held from a lane that goes ABSENT unheard is not held after the strobe, and its drop is told (R92). -/
theorem State.claim_drops {s : State} {inp : StrobeInput} (htakes : s.takesStrobes) (hactive : s.active = true)
    (hfew : s.verdict = .mismatched → s.echoMismatch < 2) {p : Fin 8} {h : Tag}
      (hheld : (s.ports.get p).holder = some h)
    (hunforced : ¬s.forced inp p) (hunheard : ∀ f, s.blockFrame s.verdict h.station ≠ .valid f)
    (habsent : goesAbsent (s.lanes.get h.station) (s.blockFrame s.verdict h.station) = true) :
    ((s.afterStrobe inp).ports.get p).holder ≠ some h ∧ (s.afterStrobe inp).told (.claimDropped p h) := by
  have hc := State.conflicts_eq_false hfew
  obtain ⟨hclosed, hclash, _, _⟩ := State.closed_active inp hc (.inl hactive)
  refine ⟨?_, State.told_claimDropped htakes hclosed ?_ habsent⟩
  · rw [(State.afterStrobe_claims htakes p).1, State.checked_port]
    split
    · simp [Port.close, Port.emptyClaims]
    · rw [State.claimed_port, if_pos hclosed]
      intro hholder
      rcases claimUpdate_sources hholder with hkeeps | hasks
      · simp [State.keepsClaim, habsent] at hkeeps
      · rw [State.asks, (heardWants_eq_none_iff s _ _).mpr hunheard] at hasks
        cases hasks
  · rw [(State.listened_port_of_few hc hclash p).2 hunforced]
    exact hheld

/-- Settles O36. -/
theorem laneThresholdsComplete : Obligations.LaneThresholdsComplete := by
  intro s inp l previous htakes
  refine ⟨fun f hf hreceive hseq => State.acquire_completes htakes hf hreceive hseq, fun hreceive hmiss => ?_⟩
  have hunheard : ∀ f, s.blockFrame s.verdict l ≠ .valid f := by
    rintro f hf
    rcases hmiss with h | ⟨h, _⟩ <;> rw [hf] at h <;> cases h
  have hmark : s.blockFrame s.verdict l = .invalid ∨ (s.lanes.get l).finalMark = false := hmiss.imp_right And.right
  have hreceived : receiveAfter (s.lanes.get l) (s.blockFrame s.verdict l) = .absent := by
    rw [receiveAfter_of_miss hunheard hmark, hreceive]
    rfl
  have habsent : goesAbsent (s.lanes.get l) (s.blockFrame s.verdict l) = true := by
    simp [goesAbsent, hreceived, hreceive]
  have hafter := (State.afterStrobe_receive (inp := inp) htakes l).trans hreceived
  refine ⟨s.afterStrobe inp, congrArg Host.Outcome.next (State.strobeWhen_of_due ?_), rfl, hafter, ?_, fun c => ?_, ?_⟩
  · simp only [hreceive, hafter, Bool.not_eq_true', Bool.and_eq_false_iff]
    rcases hmiss with h | ⟨_, h⟩
    · refine .inr ?_
      cases hframe : (s.lanes.get l).frame with
      | none =>
        rw [(s.blockFrame_eq_missing_iff _ l).mpr hframe] at h
        cases h
      | some r => rfl
    · exact .inl h
  · refine State.afterStrobe_told_lane inp htakes l ?_
    rw [laneEvent_lost hunheard hmark hreceive (by decide)]
    exact List.mem_singleton_self _
  · rw [s.afterStrobe_directory inp htakes, State.filed_directory, entryAfter_of_unheard hunheard, habsent]
    rfl
  · rintro hactive hfew p h hheld rfl hunforced
    refine State.claim_drops htakes hactive hfew hheld (fun hforced => ?_) hunheard habsent
    rcases hunforced with hfaults | hout
    · rw [hforced.1] at hfaults
      cases hfaults
    · exact hforced.2 hout

end Sys2Proof.Machine
end

section
/-! The ports at a taken strobe: the entry to CLOSING, the withdrawal check and the group faults (R53, R57 to R61,
R144). -/

namespace Sys2Proof.Machine

/-! ## The entry to CLOSING -/

theorem State.station_of_closed_withdrawing {s : State} {inp : StrobeInput} {timer : Nat}
    (h : (s.closed inp).station = .withdrawing timer) : s.conflicts = false ∧ s.station = .withdrawing timer := by
  have hc : s.conflicts = false := by
    rcases Bool.eq_false_or_eq_true s.conflicts with hc | hc
    · rw [State.closed_station_of_conflicts hc] at h
      cases h
    · exact hc
  rw [State.closed_station_of_few hc] at h
  rcases s.station.settled_cases with hs | ⟨hs, _⟩
  · exact ⟨hc, hs ▸ h⟩
  · exact absurd h (hs timer)

theorem State.withdrawing_of_closesNow {s : State} {inp : StrobeInput} (h : (s.claimed inp).closesNow = true) :
    s.conflicts = false ∧ ∃ timer, s.station = .withdrawing timer := by
  by_cases hst : ∃ timer, (s.closed inp).station = .withdrawing timer
  · obtain ⟨timer, hst⟩ := hst
    obtain ⟨hc, hs⟩ := State.station_of_closed_withdrawing hst
    exact ⟨hc, timer, hs⟩
  · push Not at hst
    rw [State.closesNow_eq_false_of_other hst] at h
    cases h

theorem State.closesNow_of_withdrawing {s : State} {timer : Nat} (hst : s.station = .withdrawing timer) :
    s.closesNow = decide (s.heldPorts = 0) := by
  simp only [State.closesNow, State.withdrawingFlag, hst, Bool.true_and]

/-- The station enters CLOSING at a strobe exactly when the withdrawal check closes it (R144). -/
theorem State.closesNow_iff {s : State} {inp : StrobeInput} (htakes : s.takesStrobes) :
    (s.claimed inp).closesNow = true ↔ s.stationName = .withdrawing ∧ (s.afterStrobe inp).stationName = .closing := by
  constructor
  · intro h
    obtain ⟨_, timer, hst⟩ := State.withdrawing_of_closesNow h
    simp [State.stationName, Station.name, hst, State.afterStrobe_station_of_closesNow htakes h]
  · rintro ⟨hname, hafter⟩
    obtain ⟨timer, hst⟩ : ∃ timer, s.station = .withdrawing timer := by
      cases hst : s.station with
      | withdrawing timer => exact ⟨timer, rfl⟩
      | _ => simp [State.stationName, Station.name, hst] at hname
    rcases Bool.eq_false_or_eq_true s.conflicts with hc | hc
    · simp [State.stationName, Station.name,
        State.afterStrobe_station_of_judged htakes (State.judged_station_of_conflicts inp hc),
          Station.afterSending] at hafter
    · have hclaimed : (s.claimed inp).station = .withdrawing timer := by
        rw [State.claimed_station, State.closed_station_of_few hc, hst]
        rfl
      by_cases hfree : (s.claimed inp).heldPorts = 0
      · rw [State.closesNow_of_withdrawing hclaimed, hfree]
        rfl
      · have hjudged := State.judged_station_of_withdrawing inp hc hst
        rw [if_neg hfree] at hjudged
        rw [State.stationName, State.afterStrobe_station_of_judged htakes hjudged] at hafter
        split_ifs at hafter <;> cases hafter

/-! ## State, talkback and claims of a port -/

theorem State.faulted_port_cases (s : State) (inp : StrobeInput) (p : Fin 8) :
    (s.forced inp p → (s.faulted inp).ports.get p = (s.ports.get p).changeState .outOfService)
      ∧ (¬s.forced inp p → (s.faulted inp).ports.get p = s.ports.get p) := by
  rw [State.faulted_port]
  exact ⟨fun h => if_pos h, fun h => if_neg h⟩

/-- The port state and talkback after a strobe. -/
theorem State.afterStrobe_port_state {s : State} {inp : StrobeInput} (htakes : s.takesStrobes) (p : Fin 8) :
    ((s.claimed inp).closesNow = false →
      ((s.afterStrobe inp).ports.get p).state = ((s.faulted inp).ports.get p).state
      ∧ ((s.afterStrobe inp).ports.get p).talkback = ((s.faulted inp).ports.get p).talkback)
    ∧ ((s.claimed inp).closesNow = true →
      ((s.afterStrobe inp).ports.get p).state
        = (if ((s.faulted inp).ports.get p).state = .outOfService then .outOfService else .idle)
      ∧ ((s.afterStrobe inp).ports.get p).talkback = false) := by
  obtain ⟨hstate, _, _, htalkback⟩ := s.cadenced_claims inp p
  obtain ⟨holder, queue, hclaimed⟩ := s.claimed_port_shape inp p
  rw [s.afterStrobe_ports inp htakes, hstate, htalkback, State.checked_port, hclaimed]
  refine ⟨fun h => ?_, fun h => ?_⟩
  · rw [h]
    exact ⟨rfl, rfl⟩
  · rw [h]
    simp only [if_true, Port.close_eq]
    split_ifs <;> simp_all

/-- A port taken out by a group fault (R60, R98). -/
theorem claimUpdate_of_empty {q : Port} (hholder : q.holder = none) (hqueue : q.queue = []) (hserved : q.served = false)
    (heard : Fin 16 → Option (List Tag)) (absent : Vector Bool 16) (running : Bool) :
      claimUpdate heard absent running q = q := by
  have hair : q.state ≠ .air := fun h => by simp [Port.served, h] at hserved
  have hleft : claimRemoval heard (claimRelease heard (claimAbsence absent q)) = q := by
    rw [claimRemoval_release_absence, hholder, hqueue]
    cases q
    cases hholder
    cases hqueue
    rfl
  unfold claimUpdate
  rw [hleft, claimQueueing, hserved]
  exact claimGrant_of_other (.inr hair)

/-- The port that a group fault leaves stands through the claim update and the withdrawal check (R60, R98). -/
theorem State.checked_port_of_forced {s : State} {inp : StrobeInput} {p : Fin 8} (h : s.forced inp p) :
    (s.checked inp).ports.get p = (s.ports.get p).changeState .outOfService := by
  have hfaulted := (s.faulted_port_cases inp p).1 h
  rw [Port.changeState_outOfService] at hfaulted ⊢
  have hlistened : (s.listened inp).ports.get p = (s.faulted inp).ports.get p := by
    rw [State.listened_port, State.echoed_port, hfaulted]
    split_ifs <;> rfl
  have hclaimed : (s.claimed inp).ports.get p = (s.faulted inp).ports.get p := by
    rw [State.claimed_port, hlistened, hfaulted]
    split_ifs
    · exact claimUpdate_of_empty rfl rfl rfl _ _ _
    · rfl
  rw [State.checked_port, hclaimed, hfaulted]
  split_ifs
  · rw [Port.close_eq]
    rfl
  · rfl

/-! ## The withdrawal check (R144) -/

theorem State.claimed_holder_of_withdrawing {s : State} {inp : StrobeInput} (hc : s.conflicts = false) {timer : Nat}
    (hst : s.station = .withdrawing timer) (p : Fin 8) :
    ((s.claimed inp).ports.get p).holder = s.keptHolder inp p := by
  obtain ⟨hactive, hclash, _, hwithdrawing⟩ := State.closed_active inp hc (.inl (s.active_iff.mpr (.inr ⟨timer, hst⟩)))
  have hnot : (Station.withdrawing timer == .running) = false := rfl
  rw [State.claimed_port_of_active hactive, hwithdrawing timer hst, hnot, claimGrant_of_other (.inl rfl)]
  by_cases h : s.forced inp p
  · obtain ⟨hkept, hholder, _, _⟩ := State.claimsLeft_of_forced hc hclash h
    exact hholder.trans hkept.symm
  · exact (State.claimsLeft_of_unforced hc hclash h).1

theorem State.claimed_heldPorts {s : State} {inp : StrobeInput} (hc : s.conflicts = false) {timer : Nat}
    (hst : s.station = .withdrawing timer) :
    (s.claimed inp).heldPorts = ((List.finRange 8).filter fun p => (s.keptHolder inp p).isSome).length := by
  simp only [State.heldPorts, State.claimed_holder_of_withdrawing hc hst]

/-- The number of ports with a holder is 0 exactly when none has one. -/
theorem heldPorts_pos_iff (held : Fin 8 → Option Tag) :
    ((List.finRange 8).filter fun p => (held p).isSome).length ≠ 0 ↔ ∃ p, held p ≠ none := by
  simp [List.filter_eq_nil_iff, Option.isSome_iff_ne_none]

theorem State.afterStrobe_live {s : State} {inp : StrobeInput} (htakes : s.takesStrobes) (m : Fin 4) :
    ((s.afterStrobe inp).mixes.get m).live = ((s.checked inp).mixes.get m).live := by
  rw [s.afterStrobe_mixes inp htakes, State.composed_mix, State.statused_mix]
  split_ifs <;> rfl

/-- A withdrawal without a holder (R144, R58, R99). -/
theorem State.withdrawal_closes {s : State} {inp : StrobeInput} (htakes : s.takesStrobes) {timer : Nat}
    (hst : s.station = .withdrawing timer) (hc : s.conflicts = false) (hnone : ∀ p, s.keptHolder inp p = none) :
    ∃ t, exec (.blockStrobe inp) s = .next t ∧ t.station = .closing .normal 1
      ∧ t.sent = some (frameBytes s.stationNumber s.sequence finalContent)
      ∧ t.lout = .driven (frameBytes s.stationNumber s.sequence finalContent)
      ∧ t.sequence = s.sequence + 1 ∧ t.history = s.history
      ∧ (∀ p, (t.ports.get p).served = false ∧ (t.ports.get p).talkback = false
        ∧ (t.ports.get p).holder = none ∧ (t.ports.get p).queue = [])
      ∧ (∀ m, (t.mixes.get m).live = false) ∧ ∀ p, t.output.get p = Block.zero := by
  have hfree : (s.claimed inp).heldPorts = 0 := by
    rw [State.claimed_heldPorts hc hst]
    by_contra h
    obtain ⟨p, hp⟩ := (heldPorts_pos_iff _).mp h
    exact hp (hnone p)
  have hjudged : (s.judged inp).station = .closing .normal 0 := by
    rw [State.judged_station_of_withdrawing inp hc hst, if_pos hfree]
  have hcloses : (s.claimed inp).closesNow = true := by
    have hclaimed : (s.claimed inp).station = .withdrawing timer := by
      rw [State.claimed_station, State.closed_station_of_few hc, hst]
      rfl
    rw [State.closesNow_of_withdrawing hclaimed, hfree]
    rfl
  obtain ⟨hstation, hsequence, hhistory, hsent, hlout⟩ := State.afterStrobe_of_final htakes hjudged
  refine ⟨_, rfl, hstation, hsent, hlout, hsequence, hhistory, fun p => ?_, fun m => ?_,
    State.afterStrobe_silent_returns htakes (by simp [State.active, hjudged])⟩
  · obtain ⟨hstate, htalkback⟩ := (State.afterStrobe_port_state htakes p).2 hcloses
    obtain ⟨hholder, hqueue⟩ := State.afterStrobe_claims (inp := inp) htakes p
    rw [hholder, hqueue, State.checked_port, if_pos hcloses]
    refine ⟨?_, htalkback, rfl, rfl⟩
    rw [Port.served, hstate]
    split_ifs <;> rfl
  · rw [State.afterStrobe_live htakes, State.checked_mix, if_pos hcloses]

/-- A withdrawal that goes on or is denied keeps the holders. -/
theorem State.withdrawal_keeps {s : State} {inp : StrobeInput} (htakes : s.takesStrobes) {timer : Nat}
    (hst : s.station = .withdrawing timer) (hc : s.conflicts = false) (hheld : (s.claimed inp).heldPorts ≠ 0)
      (p : Fin 8) :
    ((s.afterStrobe inp).ports.get p).holder = s.keptHolder inp p := by
  have hopen : (s.claimed inp).closesNow = false := by simp [State.closesNow, hheld]
  rw [(State.afterStrobe_claims htakes p).1, State.checked_port_of_open hopen,
    State.claimed_holder_of_withdrawing hc hst]

/-- Settles O41. -/
theorem withdrawalsWaitForHolders : Obligations.WithdrawalsWaitForHolders := by
  intro s inp timer hreset hst hfew
  have htakes : s.takesStrobes := ⟨hreset, by rw [hst]; nofun⟩
  have hc := State.conflicts_eq_false hfew
  refine ⟨fun hnone => State.withdrawal_closes htakes hst hc hnone, fun hheld => ?_⟩
  have hcount := State.claimed_heldPorts (inp := inp) hc hst
  have hpos : (s.claimed inp).heldPorts ≠ 0 := by
    rw [hcount]
    exact (heldPorts_pos_iff _).mpr hheld
  have hjudged := State.judged_station_of_withdrawing inp hc hst
  rw [if_neg hpos] at hjudged
  refine ⟨fun htimer => ?_, fun htimer => ?_⟩
  · rw [if_pos (by omega)] at hjudged
    exact ⟨_, rfl, State.afterStrobe_station_of_judged htakes hjudged, State.withdrawal_keeps htakes hst hc hpos⟩
  · rw [if_neg (by omega)] at hjudged
    obtain ⟨hrunning, _, frame, hsent, _, hkind, hflag⟩ := State.afterStrobe_of_running htakes hjudged
    have hfew : (s.claimed inp).heldPorts ≤ 8 := (List.length_filter_le _ _).trans_eq List.length_finRange
    refine ⟨s.afterStrobe inp, frame, (s.claimed inp).heldPorts,
      congrArg Host.Outcome.next (State.strobeWhen_of_due ?_), rfl, hrunning, State.withdrawal_keeps htakes hst hc hpos,
      hsent, hkind, hflag, ?_, hcount, Nat.pos_of_ne_zero hpos, hfew⟩
    · simp [State.stationName, Station.name, hst, hrunning]
    · have hclaimed : (s.claimed inp).station = .withdrawing timer := by
        rw [State.claimed_station, State.closed_station_of_few hc, hst]
        rfl
      refine State.told_of_pass htakes (w := withdrawalPass (s.claimed inp)) (by simp [State.strobeChains])
        (chain := [.withdrawDenied (s.claimed inp).heldPorts]) ?_ (List.mem_singleton_self _)
      rw [withdrawalPass_of_denied hclaimed hpos (by omega)]
      exact List.mem_singleton_self _

end Sys2Proof.Machine
end

section
/-! Group faults and the level monitor at a taken strobe (R53, R55, R57 to R61, R65 to R67). -/

namespace Sys2Proof.Machine

/-! ## The port after a strobe -/

theorem State.afterStrobe_port_served {s : State} {inp : StrobeInput} (htakes : s.takesStrobes) (p : Fin 8) :
    ((s.afterStrobe inp).ports.get p).served = ((s.checked inp).ports.get p).served := by
  rw [s.afterStrobe_ports inp htakes, Port.served, (s.cadenced_claims inp p).1]
  rfl

theorem State.measured_served (s : State) (inp : StrobeInput) (p : Fin 8) :
    ((s.measured inp).ports.get p).served = ((s.checked inp).ports.get p).served := by
  rw [State.measured_port]
  split <;> rfl

/-- A return is built for a port in service of an active station, as the strobe leaves them (R117). -/
theorem State.builds_eq {s : State} {inp : StrobeInput} (htakes : s.takesStrobes) (p : Fin 8) :
    (s.statused inp).builds p = ((s.afterStrobe inp).active && ((s.afterStrobe inp).ports.get p).served) := by
  have hactive : (s.statused inp).active = (s.afterStrobe inp).active := by
    rw [State.active_of_station (s.statused_station inp), s.afterStrobe_active inp htakes]
  rw [State.builds, hactive, State.afterStrobe_port_served htakes, State.statused_ports, State.measured_served]

theorem State.afterStrobe_output_of_unserved {s : State} {inp : StrobeInput} (htakes : s.takesStrobes) {p : Fin 8}
    (h : ((s.afterStrobe inp).ports.get p).served = false) : (s.afterStrobe inp).output.get p = Block.zero := by
  rw [s.afterStrobe_output inp htakes, State.returned_output, State.builds_eq htakes, h, Bool.and_false]
  rfl

/-- After the withdrawal check nothing touches a port out of service or in IDLE. -/
theorem State.afterStrobe_port_of_unserved {s : State} {inp : StrobeInput} (htakes : s.takesStrobes) {p : Fin 8}
    (h : ((s.checked inp).ports.get p).served = false) :
    (s.afterStrobe inp).ports.get p = (s.checked inp).ports.get p := by
  have hafter := (State.afterStrobe_port_served (inp := inp) htakes p).trans h
  have hmeasured : (s.measured inp).ports.get p = (s.checked inp).ports.get p := by
    rw [State.measured_port, h]
    rfl
  have hreturned : (s.returned inp).ports.get p = (s.checked inp).ports.get p := by
    rw [State.returned_port, State.builds_eq htakes, hafter, Bool.and_false, hmeasured]
    rfl
  have hhold : ((s.checked inp).ports.get p).state ≠ .hold := fun hst => by simp [Port.served, hst] at h
  rw [s.afterStrobe_ports inp htakes, State.cadenced_port, hreturned, if_neg hhold]

theorem Port.served_eq_false_iff (q : Port) : q.served = false ↔ q.state = .idle ∨ q.state = .outOfService := by
  unfold Port.served
  cases q.state <;> simp

theorem State.afterStrobe_port_of_forced {s : State} {inp : StrobeInput} (htakes : s.takesStrobes) {p : Fin 8}
    (h : s.forced inp p) : (s.afterStrobe inp).ports.get p = (s.ports.get p).changeState .outOfService := by
  have hchecked := State.checked_port_of_forced h
  have hunserved : ((s.checked inp).ports.get p).served = false := by
    rw [hchecked]
    rfl
  rw [State.afterStrobe_port_of_unserved htakes hunserved, hchecked]

/-- A port out of service stays out (R61). -/
theorem State.afterStrobe_state_of_outOfService {s : State} {inp : StrobeInput} (htakes : s.takesStrobes) {p : Fin 8}
    (h : (s.ports.get p).state = .outOfService) : ((s.afterStrobe inp).ports.get p).state = .outOfService := by
  have hfaulted : ((s.faulted inp).ports.get p).state = .outOfService := by
    rw [(s.faulted_port_cases inp p).2 fun hforced => hforced.2 h]
    exact h
  rcases Bool.eq_false_or_eq_true (s.claimed inp).closesNow with hcn | hcn
  · rw [((State.afterStrobe_port_state htakes p).2 hcn).1, if_pos hfaulted]
  · rw [((State.afterStrobe_port_state htakes p).1 hcn).1, hfaulted]

/-! ## The fault inputs (R59 to R61) -/

/-- The fault input of a group. -/
def faultInput (inp : StrobeInput) (g : Group) : Bool := if g = .a then inp.faultA else inp.faultB

theorem State.faulted_level (s : State) (inp : StrobeInput) (g : Group) : (s.faulted inp).level g =
    faultInput inp g := by
  cases g <;> simp [State.faulted, faultPass_level, faultInput]

theorem State.afterStrobe_level {s : State} {inp : StrobeInput} (htakes : s.takesStrobes) (g : Group) :
    (s.afterStrobe inp).level g = faultInput inp g := by
  rw [← s.faulted_level inp g]
  cases g
  · exact s.afterStrobe_levelA inp htakes
  · exact s.afterStrobe_levelB inp htakes

theorem mem_portsOf (g : Group) (p : Fin 8) : p ∈ portsOf g ↔ groupOfPort p = g := by
  simp [portsOf]

theorem State.faults_of_group {s : State} {inp : StrobeInput} {g : Group} {p : Fin 8} (hg : groupOfPort p = g)
    (hlevel : s.level g = false) (hsample : faultInput inp g = true) : s.faults inp p = true := by
  rw [s.faults_eq_true_iff]
  cases g
  · exact .inl ⟨hg, hsample, hlevel⟩
  · exact .inr ⟨hg, hsample, hlevel⟩

theorem State.outOfService_congr {s t : State} {ports : List (Fin 8)}
    (h : ∀ p ∈ ports, (t.ports.get p).state = (s.ports.get p).state) : t.outOfService ports = s.outOfService ports := by
  unfold State.outOfService
  congr 1
  exact List.filter_congr fun p hp => by rw [h p hp]

/-- A group's four ports are in service or out of it. -/
theorem State.four_sub_outOfService (s : State) (g : Group) :
    4 - s.outOfService (portsOf g) = ((portsOf g).filter fun p => (s.ports.get p).state != .outOfService).length := by
  have hfour : (portsOf g).length = 4 := by cases g <;> rfl
  have hsplit := (portsOf g).length_eq_length_filter_add fun p => (s.ports.get p).state == .outOfService
  rw [hfour] at hsplit
  unfold State.outOfService
  simp only [bne]
  omega

/-- The state in which a group's fault input is sampled. -/
def State.sampledIn (s : State) (inp : StrobeInput) (g : Group) : State :=
  if g = .a then s.noted inp else (faultPass .a inp.faultA (s.noted inp)).st

theorem State.sampledIn_level (s : State) (inp : StrobeInput) (g : Group) : (s.sampledIn inp g).level g =
    s.level g := by
  cases g
  · rfl
  · simp only [State.sampledIn, reduceCtorEq, if_false, faultPass_level]
    rfl

theorem State.sampledIn_outOfService (s : State) (inp : StrobeInput) (g : Group) :
    (s.sampledIn inp g).outOfService (portsOf g) = s.outOfService (portsOf g) := by
  refine State.outOfService_congr fun p hp => ?_
  have hg := (mem_portsOf g p).mp hp
  cases g
  · rfl
  · simp only [State.sampledIn, reduceCtorEq, if_false, faultPass_port, hg, false_and]
    rfl

theorem State.faultPass_mem_chains (s : State) (inp : StrobeInput) (g : Group) :
    (faultPass g (faultInput inp g) (s.sampledIn inp g)).chains ∈ s.strobeChains inp := by
  cases g <;> simp [State.strobeChains, State.sampledIn, faultInput]

theorem State.told_groupFault {s : State} {inp : StrobeInput} (htakes : s.takesStrobes) {g : Group}
    (hlevel : s.level g = false) (hsample : faultInput inp g = true) :
    (s.afterStrobe inp).told
      (.groupFault g ((portsOf g).filter fun p => (s.ports.get p).state != .outOfService).length) := by
  refine State.told_of_pass htakes (s.faultPass_mem_chains inp g) (chain := [_]) ?_ (List.mem_singleton_self _)
  rw [hsample, faultPass_of_asserted (by rw [State.sampledIn_level, hlevel]), State.sampledIn_outOfService,
    State.four_sub_outOfService]
  exact List.mem_singleton_self _

theorem State.told_groupClear {s : State} {inp : StrobeInput} (htakes : s.takesStrobes) {g : Group}
    (hlevel : s.level g = true) (hsample : faultInput inp g = false) :
    (s.afterStrobe inp).told
      (.groupClear g ((portsOf g).filter fun p => (s.ports.get p).state == .outOfService).length) := by
  refine State.told_of_pass htakes (s.faultPass_mem_chains inp g) (chain := [_]) ?_ (List.mem_singleton_self _)
  rw [hsample, faultPass_of_negated (by rw [State.sampledIn_level, hlevel]), State.sampledIn_outOfService]
  exact List.mem_singleton_self _

/-- A port of a group whose input changes to asserted (R60). -/
theorem State.group_takes_out {s : State} {inp : StrobeInput} (htakes : s.takesStrobes) {p : Fin 8}
    (hfaults : s.faults inp p = true) :
    ((s.afterStrobe inp).ports.get p).state = .outOfService ∧ (s.afterStrobe inp).output.get p = Block.zero
      ∧ ((s.ports.get p).state ≠ .outOfService → ((s.afterStrobe inp).ports.get p).holder = none
        ∧ ((s.afterStrobe inp).ports.get p).queue = [] ∧ ((s.afterStrobe inp).ports.get p).talkback = false
        ∧ ((s.afterStrobe inp).ports.get p).peak = 0 ∧ ((s.afterStrobe inp).ports.get p).activity = false
        ∧ ((s.afterStrobe inp).ports.get p).quiet = 0 ∧ ((s.afterStrobe inp).ports.get p).armed = false) := by
  have hstate : ((s.afterStrobe inp).ports.get p).state = .outOfService := by
    by_cases hout : (s.ports.get p).state = .outOfService
    · exact State.afterStrobe_state_of_outOfService htakes hout
    · rw [State.afterStrobe_port_of_forced htakes ⟨hfaults, hout⟩]
      rfl
  refine ⟨hstate, State.afterStrobe_output_of_unserved htakes ((Port.served_eq_false_iff _).mpr (.inr hstate)),
    fun hin => ?_⟩
  rw [State.afterStrobe_port_of_forced htakes ⟨hfaults, hin⟩, Port.changeState_outOfService]
  exact ⟨rfl, rfl, rfl, rfl, rfl, rfl, rfl⟩

/-- Where the part claims nothing before and after the strobe, and enters no CONFLICT, a port that no fault takes out
keeps its claims (R90, R20). -/
theorem State.claims_stay {s : State} {inp : StrobeInput} (htakes : s.takesStrobes) {p : Fin 8}
    (hunforced : ¬s.forced inp p)
    (hbefore : s.active = false) (hafter : (s.afterStrobe inp).active = false)
    (hconflict : (s.afterStrobe inp).stationName = .conflict → s.stationName = .conflict) :
    ((s.afterStrobe inp).ports.get p).holder = (s.ports.get p).holder
      ∧ ((s.afterStrobe inp).ports.get p).queue = (s.ports.get p).queue := by
  have hentered : s.stationName ≠ .conflict → (s.afterStrobe inp).station ≠ .conflict := by
    intro hname hst
    exact hname (hconflict (by simp [State.stationName, Station.name, hst]))
  have hc : s.conflicts = false := by
    rcases Bool.eq_false_or_eq_true s.conflicts with hc | hc
    · refine absurd (State.afterStrobe_of_conflict htakes (.inl hc)).1 (hentered fun hname => ?_)
      rcases State.judges_of_conflicts hc with hst | ⟨_, hst⟩ | ⟨_, _, hst, _⟩ <;>
        simp [State.stationName, Station.name, hst] at hname
    · exact hc
  have hclash : s.station.clashes = false := by
    rcases Bool.eq_false_or_eq_true s.station.clashes with hclash | hclash
    · refine absurd (State.afterStrobe_of_conflict htakes (.inr ⟨hc, hclash⟩)).1 (hentered fun hname => ?_)
      unfold Station.clashes at hclash
      split at hclash
      next hst => simp [State.stationName, Station.name, hst] at hname
      · cases hclash
    · exact hclash
  have hclosed : (s.closed inp).active = false := by
    rcases withdrawalPass_cases (s.claimed inp) with ⟨_, st, hst, hactive, _⟩ | ⟨hcn, _⟩
    · rw [s.afterStrobe_active inp htakes, State.checked, hst, hactive,
        State.active_of_station (s.claimed_station inp)] at hafter
      exact hafter
    · obtain ⟨_, timer, hst⟩ := State.withdrawing_of_closesNow hcn
      simp [State.active, hst] at hbefore
  obtain ⟨hholder, hqueue⟩ := State.afterStrobe_claims (inp := inp) htakes p
  rw [hholder, hqueue, State.checked_port_of_inactive hclosed, (State.listened_port_of_few hc hclash p).2 hunforced]
  exact ⟨rfl, rfl⟩

/-- Settles O43: the levels, the two groups, and the ports left alone. -/
theorem groupFaultsTakePortsOut : Obligations.GroupFaultsTakePortsOut := by
  intro s inp htakes
  refine ⟨s.afterStrobe inp, rfl, State.afterStrobe_level htakes .a, State.afterStrobe_level htakes .b,
    fun g sample level hg => ?_, fun p => ?_⟩
  · obtain ⟨rfl, rfl⟩ : sample = faultInput inp g ∧ level = s.level g := by
      rcases hg with ⟨rfl, rfl, rfl⟩ | ⟨rfl, rfl, rfl⟩ <;> exact ⟨rfl, rfl⟩
    refine ⟨fun hlevel hsample => ⟨State.told_groupFault htakes hlevel hsample, fun p hp => ?_⟩,
      fun hlevel hsample => State.told_groupClear htakes hlevel hsample,
      fun _ p _ hout => State.afterStrobe_state_of_outOfService htakes hout,
      fun _ p hout => State.afterStrobe_state_of_outOfService htakes hout⟩
    exact State.group_takes_out htakes (State.faults_of_group ((mem_portsOf g p).mp hp) hlevel hsample)
  · intro before after closes hunforced
    have hfaulted := (s.faulted_port_cases inp p).2 hunforced
    have hstates := State.afterStrobe_port_state (inp := inp) htakes p
    rw [hfaulted] at hstates
    obtain ⟨hopen, hclosing⟩ := hstates
    refine ⟨fun hcloses => hopen ?_, fun hcloses => hclosing ((State.closesNow_iff htakes).mpr hcloses),
      fun hbefore hafter hconflict => State.claims_stay htakes hunforced hbefore hafter hconflict⟩
    rcases Bool.eq_false_or_eq_true (s.claimed inp).closesNow with hcn | hcn
    · exact absurd ((State.closesNow_iff htakes).mp hcn) hcloses
    · exact hcn

/-! ## The level monitor (R65 to R67) -/

/-- A port in service that neither a fault nor the entry to CLOSING takes out, as it is measured. -/
theorem State.checked_port_of_unmoved {s : State} {inp : StrobeInput} {p : Fin 8} (hunforced : ¬s.forced inp p)
    (hopen : (s.claimed inp).closesNow = false) :
    ∃ holder queue, (s.checked inp).ports.get p = { s.ports.get p with holder := holder, queue := queue } := by
  obtain ⟨holder, queue, h⟩ := s.claimed_port_shape inp p
  rw [State.checked_port_of_open hopen, h, (s.faulted_port_cases inp p).2 hunforced]
  exact ⟨holder, queue, rfl⟩

/-- The level monitor of a port after a strobe is what the measurement left. -/
theorem State.afterStrobe_monitorOf {s : State} {inp : StrobeInput} (htakes : s.takesStrobes) (p : Fin 8) :
    ((s.afterStrobe inp).ports.get p).peak = ((s.measured inp).ports.get p).peak
      ∧ ((s.afterStrobe inp).ports.get p).activity = ((s.measured inp).ports.get p).activity
      ∧ ((s.afterStrobe inp).ports.get p).quiet = ((s.measured inp).ports.get p).quiet
      ∧ ((s.afterStrobe inp).ports.get p).armed = ((s.measured inp).ports.get p).armed := by
  obtain ⟨_, _, _, _, h⟩ := s.cadenced_port_shape inp p
  rw [s.afterStrobe_ports inp htakes, h]
  exact ⟨rfl, rfl, rfl, rfl⟩

theorem quietAfter_of_active (quiet : Nat) : quietAfter true quiet = 0 := rfl

theorem quietAfter_of_quiet (quiet : Nat) : quietAfter false quiet = min 600 (quiet + 1) := rfl

theorem armedAfter_of_quiet (quiet : Nat) : armedAfter false quiet = true ↔ 599 ≤ quiet := by
  rw [armedAfter_eq, quietAfter_of_quiet, decide_eq_true_iff]
  omega

/-- PARTY_ACTIVE is told for an armed port in SCREEN or HOLD with notice on (R67). -/
theorem State.told_partyActive {s : State} {inp : StrobeInput} (htakes : s.takesStrobes) {p : Fin 8} {q : Port}
    (hq : (s.checked inp).ports.get p = q) (hserved : q.served = true)
    (hgives : givesNotice q (activityBit (peakOf (s.captured p)) q.threshold) = true) :
    (s.afterStrobe inp).told (.partyActive p q.state) := by
  have hcaptured : (s.checked inp).captured p = s.captured p := by
    simp only [State.captured, State.checked_capture]
  refine State.told_of_pass htakes (w := measurePass (s.checked inp)) (by simp [State.strobeChains])
    (chain := [.partyActive p q.state]) ?_ (List.mem_singleton_self _)
  refine List.mem_map.mpr ⟨p, List.mem_finRange p, ?_⟩
  simp only [hcaptured, hq, hserved, hgives, Bool.and_self, if_true]

/-- A port that is moved at the strobe has its monitor reset (R55, R58, R60). -/
theorem State.monitor_resets {s : State} {inp : StrobeInput} (htakes : s.takesStrobes) {p : Fin 8}
    (hmoved : s.forced inp p ∨ (s.claimed inp).closesNow = true ∧ (s.ports.get p).served = true) :
    ((s.afterStrobe inp).ports.get p).peak = 0 ∧ ((s.afterStrobe inp).ports.get p).activity = false
      ∧ ((s.afterStrobe inp).ports.get p).quiet = 0 ∧ ((s.afterStrobe inp).ports.get p).armed = false := by
  by_cases hforced : s.forced inp p
  · rw [State.afterStrobe_port_of_forced htakes hforced, Port.changeState_outOfService]
    exact ⟨rfl, rfl, rfl, rfl⟩
  · obtain ⟨hcn, hserved⟩ := hmoved.resolve_left hforced
    obtain ⟨holder, queue, hclaimed⟩ := s.claimed_port_shape inp p
    have hin : ¬((s.ports.get p).state = .outOfService ∨ (s.ports.get p).state = .idle) := by
      intro h
      rw [(Port.served_eq_false_iff _).mpr h.symm] at hserved
      cases hserved
    have hchecked : (s.checked inp).ports.get p =
        { s.ports.get p with
          holder := none, queue := [], talkback := false
          state := .idle, peak := 0, activity := false, quiet := 0, armed := false } := by
      rw [State.checked_port, if_pos hcn, hclaimed, (s.faulted_port_cases inp p).2 hforced, Port.close_eq, if_neg hin]
    rw [State.afterStrobe_port_of_unserved htakes (by rw [hchecked]; rfl), hchecked]
    exact ⟨rfl, rfl, rfl, rfl⟩

/-- A port that is not measured keeps its monitor (R65). -/
theorem State.monitor_stays {s : State} {inp : StrobeInput} (htakes : s.takesStrobes) {p : Fin 8}
    (hunforced : ¬s.forced inp p) (hunserved : (s.ports.get p).served = false) :
    ((s.afterStrobe inp).ports.get p).peak = (s.ports.get p).peak
      ∧ ((s.afterStrobe inp).ports.get p).activity = (s.ports.get p).activity
      ∧ ((s.afterStrobe inp).ports.get p).quiet = (s.ports.get p).quiet
      ∧ ((s.afterStrobe inp).ports.get p).armed = (s.ports.get p).armed := by
  obtain ⟨holder, queue, hclaimed⟩ := s.claimed_port_shape inp p
  rw [(s.faulted_port_cases inp p).2 hunforced] at hclaimed
  have hout : (s.ports.get p).state = .outOfService ∨ (s.ports.get p).state = .idle :=
    ((Port.served_eq_false_iff _).mp hunserved).symm
  obtain ⟨holder', queue', talkback, hchecked⟩ : ∃ holder' queue' talkback, (s.checked inp).ports.get p =
      { s.ports.get p with holder := holder', queue := queue', talkback := talkback } := by
    rw [State.checked_port, hclaimed]
    split
    · rw [Port.close_eq, if_pos hout]
      exact ⟨_, _, _, rfl⟩
    · exact ⟨_, _, _, rfl⟩
  rw [State.afterStrobe_port_of_unserved htakes (by rw [hchecked]; exact hunserved), hchecked]
  exact ⟨rfl, rfl, rfl, rfl⟩

/-- What the measurement of a port in service leaves (R65 to R67). -/
theorem State.monitor_measures {s : State} {inp : StrobeInput} (htakes : s.takesStrobes) {p : Fin 8}
    (hunforced : ¬s.forced inp p) (hopen : (s.claimed inp).closesNow = false)
      (hserved : (s.ports.get p).served = true) :
    ∃ activity : Bool, activity = activityBit (peakOf (s.captured p)) (s.ports.get p).threshold
      ∧ ((s.afterStrobe inp).ports.get p).peak = peakOf (s.captured p)
      ∧ ((s.afterStrobe inp).ports.get p).activity = activity
      ∧ ((s.afterStrobe inp).ports.get p).quiet = quietAfter activity (s.ports.get p).quiet
      ∧ ((s.afterStrobe inp).ports.get p).armed = armedAfter activity (s.ports.get p).quiet
      ∧ (givesNotice (s.ports.get p) activity = true →
        (s.afterStrobe inp).told (.partyActive p (s.ports.get p).state)) := by
  obtain ⟨holder, queue, hchecked⟩ := State.checked_port_of_unmoved hunforced hopen
  have hmeasured := s.measured_port inp p
  rw [hchecked, if_pos (show ({ s.ports.get p with holder := holder, queue := queue } : Port).served =
    true from hserved)]
    at hmeasured
  obtain ⟨hpeak, hactivity, hquiet, harmed⟩ := State.afterStrobe_monitorOf (inp := inp) htakes p
  rw [hpeak, hactivity, hquiet, harmed, hmeasured]
  refine ⟨_, rfl, rfl, rfl, rfl, rfl, fun hgives => ?_⟩
  exact State.told_partyActive (q := { s.ports.get p with holder := holder, queue :=
    queue }) htakes hchecked hserved hgives

/-- Settles O42: a moved port, a measured one and one that is not measured. -/
theorem theLevelMonitorMeasures : Obligations.TheLevelMonitorMeasures := by
  intro s inp p htakes
  refine ⟨s.afterStrobe inp, rfl, ?_⟩
  intro before after block closes moved
  have hcloses := State.closesNow_iff (inp := inp) htakes
  have hserved := (s.ports.get p).served_iff
  refine ⟨fun hmoved => State.monitor_resets htakes (hmoved.imp id fun ⟨hc, hin⟩ => ⟨hcloses.mpr hc, hserved.mpr hin⟩),
    fun hunmoved hin => ?_, fun hunmoved hout => ?_⟩
  · have hunforced : ¬s.forced inp p := fun h => hunmoved (.inl h)
    have hopen : (s.claimed inp).closesNow = false := by
      rcases Bool.eq_false_or_eq_true (s.claimed inp).closesNow with hcn | hcn
      · exact absurd (.inr ⟨hcloses.mp hcn, hin⟩) hunmoved
      · exact hcn
    obtain ⟨activity, hbit, hpeak, hactivity, hquiet, harmed, htold⟩ :=
      State.monitor_measures (inp := inp) htakes hunforced hopen (hserved.mpr hin)
    have hbit_iff : activity = true ↔ before.threshold ≤ peakOf block := by rw [hbit]; exact decide_eq_true_iff
    refine ⟨fun n => by rw [hpeak]; exact natAbs_le_peakOf _ n, by rw [hpeak]; exact exists_natAbs_eq_peakOf _, ?_,
      fun hon => ?_, fun hoff => ?_, fun hlast hbelow => ?_⟩
    · rw [hactivity, hpeak]
      exact hbit_iff
    · rw [hactivity] at hon
      rw [hquiet, harmed, hon]
      refine ⟨rfl, rfl, fun hair hnotice hwas => htold ?_⟩
      have hstate : (before.state == .screen || before.state == .hold) = true := by
        rcases hin with h | h | h
        · simp [h]
        · simp [h]
        · exact absurd h hair
      simp only [givesNotice, hon, Bool.true_and, Bool.and_eq_true]
      exact ⟨⟨hstate, hnotice⟩, hwas⟩
    · rw [hactivity] at hoff
      rw [hquiet, harmed, hoff]
      exact ⟨rfl, armedAfter_of_quiet _⟩
    · have hoff : activity = false := by
        rw [Bool.eq_false_iff]
        intro hon
        obtain ⟨n, hn⟩ := exists_natAbs_eq_peakOf block
        exact absurd (hbit_iff.mp hon) (Nat.not_le.mpr (hn ▸ hbelow n))
      have hfull : after.quiet = 600 := by
        rw [hquiet, hoff, quietAfter_of_quiet, hlast]
        rfl
      refine ⟨congrArg Host.Outcome.next (State.strobeWhen_of_due ?_), hfull, ?_⟩
      · have hbefore : (s.ports.get p).quiet = 599 := hlast
        simp [hbefore, hfull, after]
      · rw [harmed, hoff]
        exact (armedAfter_of_quiet _).mpr (le_of_eq hlast.symm)
  · exact State.monitor_stays htakes (fun h => hunmoved (.inl h)) ((Port.served_eq_false_iff _).mpr hout)

end Sys2Proof.Machine
end

section
/-! The directory at a taken strobe: delivery, ageing and removal, and the entry that a frame gives a channel (R24 to
R28, R175, R176). -/

namespace Sys2Proof.Machine

/-! ## What a channel's entry is read from -/

theorem sampleAt_eq (samples : List Byte) (k : Nat) (n : Fin 16) :
    sampleAt samples k n = (BitVec.ofNat 32 (nat4 (byteAt samples (64 * k + 4 * n.val))
      (byteAt samples (64 * k + 4 * n.val + 1)) (byteAt samples (64 * k + 4 * n.val + 2))
      (byteAt samples (64 * k + 4 * n.val + 3)))).toInt := by
  have hlt : ∀ a b c d : Byte, nat4 a b c d < 4294967296 := by
    intro a b c d
    have := a.isLt
    have := b.isLt
    have := c.isLt
    have := d.isLt
    unfold nat4
    omega
  have hvalue : ∀ m : Nat, m < 4294967296 →
      (if m < 2147483648 then (m : Int) else (m : Int) - 4294967296) = (BitVec.ofNat 32 m).toInt := by
    intro m hm
    rw [BitVec.toInt_eq_toNat_cond, BitVec.toNat_ofNat, Nat.mod_eq_of_lt (by omega)]
    split <;> split <;> omega
  exact hvalue _ (hlt _ _ _ _)

/-- A party's body from its descriptor, and the conditions under which there is none (R24, R26). -/
theorem partyBody_of {state flags holder count : Byte} {tag : Option Tag}
    (htag : tag = if flags.getLsbD 1 then some (tagOfByte holder) else none) :
    (¬(count.toNat ≤ 4 ∧ ∀ h, tag = some h → h.kind = .mix) ∨ state.toNat = 0 ∨ 3 < state.toNat →
        partyBody state flags holder count = none)
      ∧ (count.toNat ≤ 4 ∧ (∀ h, tag = some h → h.kind = .mix) →
        ∀ named, (named, state.toNat) ∈ [(PortState.screen, 1), (.hold, 2), (.air, 3)] →
        partyBody state flags holder count = some (.party named (flags.getLsbD 0) tag count.toNat)) := by
  refine ⟨fun hbad => ?_, fun ⟨hcount, hmix⟩ named hnamed => ?_⟩
  · rw [Option.eq_none_iff_forall_ne_some]
    intro body hbody
    obtain ⟨st, hcode, hst, hcount, hmix, _⟩ := partyBody_eq_some hbody
    have hrange : 1 ≤ state.toNat ∧ state.toNat ≤ 3 := by
      simp only [List.mem_cons, List.not_mem_nil, or_false] at hst
      rw [← hcode]
      rcases hst with rfl | rfl | rfl <;> decide
    rcases hbad with hbad | hbad
    · refine hbad ⟨hcount, fun h hh => ?_⟩
      rw [htag, Option.ite_none_right_eq_some] at hh
      obtain ⟨hflag, hh⟩ := hh
      cases hh
      exact hmix hflag
    · omega
  · have hfits : (tag.all fun t => t.kind == .mix) = true := by
      cases htag' : tag with
      | none => rfl
      | some h => simp [hmix h htag']
    have hcond : ((tag.all fun t => t.kind == .mix) && decide (count.toNat ≤ 4)) = true := by
      rw [hfits, decide_eq_true hcount]
      rfl
    unfold partyBody
    rw [← htag]
    simp only [List.mem_cons, Prod.mk.injEq, List.not_mem_nil, or_false] at hnamed
    rcases hnamed with ⟨rfl, h⟩ | ⟨rfl, h⟩ | ⟨rfl, h⟩ <;> simp only [h, hcond, if_true]

/-! ## The stations of a record's terms (R175) -/

theorem stationsOf_pairwise (terms : List (Tag × Nat)) : (stationsOf terms).Pairwise (· < ·) :=
  (List.pairwise_lt_finRange 16).filter _

theorem mem_stationsOf (terms : List (Tag × Nat)) (l : Fin 16) :
    l ∈ stationsOf terms ↔ ∃ t ∈ terms, t.1.station = l := by
  simp [stationsOf]

theorem stationsOf_length (terms : List (Tag × Nat)) :
    (stationsOf terms).length = (terms.map (·.1.station)).dedup.length := by
  have hnodup : (stationsOf terms).Nodup := (stationsOf_pairwise terms).imp fun h => ne_of_lt h
  refine ((List.perm_ext_iff_of_nodup hnodup (List.nodup_dedup _)).mpr fun l => ?_).length_eq
  rw [mem_stationsOf, List.mem_dedup, List.mem_map]

/-- Whether a record's values are possible (R26, R176), its samples apart. -/
def RawRecord.possible (r : RawRecord) : Prop :=
  r.terms.length ≤ 48 ∧ (r.terms.filter fun t => t.1.kind == .party).length ≤ 16
    ∧ (∀ t ∈ r.terms, t.1.kind ≠ .mix ∧ t.2 ≤ 32768) ∧ (r.terms.map (·.1)).Nodup
    ∧ r.stamps.length = (r.terms.map (·.1.station)).dedup.length

theorem recordWellFormed_iff (r : RawRecord) : recordWellFormed r = true ↔ r.possible := by
  unfold recordWellFormed RawRecord.possible
  simp only [Bool.and_eq_true, decide_eq_true_iff, List.all_eq_true, bne_iff_ne, ne_eq, beq_iff_eq, stationsOf_length]
  constructor
  · rintro ⟨⟨⟨⟨⟨hlen, hparties⟩, hkinds⟩, honce⟩, hlevels⟩, hstamps⟩
    exact ⟨hlen, hparties, fun t ht => ⟨hkinds t ht, hlevels t ht⟩, honce, hstamps⟩
  · rintro ⟨hlen, hparties, hterms, honce, hstamps⟩
    exact ⟨⟨⟨⟨⟨hlen, hparties⟩, fun t ht => (hterms t ht).1⟩, honce⟩, fun t ht => (hterms t ht).2⟩, hstamps⟩

theorem mixBody_of_named {c : Fin 16} {records : List RawRecord} :
    ((records.filter fun r => r.channel.toNat == c.val).length ≠ 1 → mixBody c records = none)
      ∧ ∀ r, (records.filter fun r => r.channel.toNat == c.val) = [r] →
        mixBody c records = if recordWellFormed r then some (.mix (compRecordOf c r)) else none := by
  unfold mixBody
  refine ⟨fun h => ?_, fun r h => by rw [h]⟩
  split
  next r hr => rw [hr] at h; exact absurd rfl h
  · rfl

/-! ## The entry of each kind of channel -/

/-- A shown channel whose samples or whose body do not fit gives no entry. -/
theorem entryOf_eq_none {f : Frame} {c : Fin 16} (hfinal : f.final = false) (hshown : c ∈ f.sections.shown)
    (h : ¬(if kindOfChannel c = .mix then wideSound (blockAt f.sections.samples (f.place c))
        else blockSound (blockAt f.sections.samples (f.place c))) ∨ f.bodyOf c = none) :
    entryOf f c = none := by
  rw [entryOf_of_shown hfinal hshown]
  rcases h with h | h
  · exact if_neg (by rwa [samplesInRange_iff])
  · rw [h]
    exact ite_self _

theorem entryOf_eq_entry {f : Frame} {c : Fin 16} (hfinal : f.final = false) (hshown : c ∈ f.sections.shown)
    (hrange : if kindOfChannel c = .mix then wideSound (blockAt f.sections.samples (f.place c))
        else blockSound (blockAt f.sections.samples (f.place c))) {body : EntryBody} (hbody : f.bodyOf c = some body) :
    entryOf f c = some
      { sequence := f.sequence, fresh := true, age := 0, samples := blockAt f.sections.samples (f.place c), body :=
        body } := by
  rw [entryOf_of_shown hfinal hshown, if_pos ((samplesInRange_iff _ _).mpr hrange), hbody]
  rfl

/-- The directory after a strobe, entry by entry (R25 to R28). -/
theorem State.afterStrobe_entry {s : State} {inp : StrobeInput} (htakes : s.takesStrobes) (l c : Fin 16) :
    ((s.afterStrobe inp).directory.get l).get c =
      entryAfter (s.blockFrame s.verdict l) (goesAbsent (s.lanes.get l) (s.blockFrame s.verdict l)) c
        ((s.directory.get l).get c) := by
  rw [s.afterStrobe_directory inp htakes, State.filed_directory]

/-- The first part of O37: delivery, removal and ageing. -/
theorem State.strobe_files {s : State} {inp : StrobeInput} (htakes : s.takesStrobes) (l c : Fin 16) :
    (∀ f, s.blockFrame s.verdict l = .valid f →
        ((s.afterStrobe inp).directory.get l).get c = entryOf f c
        ∧ (f.final = true → ((s.afterStrobe inp).directory.get l).get c = none)
        ∧ (c ∉ f.sections.shown → ((s.afterStrobe inp).directory.get l).get c = none)
        ∧ ∀ e, ((s.afterStrobe inp).directory.get l).get c = some e →
          e.sequence = f.sequence ∧ e.fresh = true ∧ e.age = 0)
      ∧ ((∀ f, s.blockFrame s.verdict l ≠ .valid f) →
        ((s.lanes.get l).receive ≠ .absent → ((s.afterStrobe inp).lanes.get l).receive = .absent →
          ((s.afterStrobe inp).directory.get l).get c = none)
        ∧ (((s.afterStrobe inp).lanes.get l).receive ≠ .absent →
          ((s.afterStrobe inp).directory.get l).get c =
            ((s.directory.get l).get c).map fun e => { e with fresh := false, age := min 65535 (e.age + 1) })) := by
  rw [State.afterStrobe_entry htakes, State.afterStrobe_receive htakes]
  refine ⟨fun f hf => ?_, fun hunheard => ?_⟩
  · rw [hf]
    refine ⟨rfl, fun h => entryOf_of_final h, fun h => entryOf_of_hidden h, fun e he => ?_⟩
    obtain ⟨_, _, hsequence, hfresh, hage⟩ := entryOf_eq_some he
    exact ⟨hsequence, hfresh, hage⟩
  · rw [entryAfter_of_unheard hunheard]
    refine ⟨fun hbefore hafter => if_pos ?_, fun hafter => if_neg ?_⟩
    · simp [goesAbsent, hbefore, hafter]
    · simp [goesAbsent, hafter]

/-- Settles O37: the directory of a strobe, then the entries of PARTY, FEED and MIX channels. -/
theorem strobesWriteTheDirectory : Obligations.StrobesWriteTheDirectory := by
  refine ⟨fun s inp htakes => ⟨s.afterStrobe inp, rfl, fun l c => State.strobe_files htakes l c⟩,
    fun f c hfinal hshown => ?_⟩
  intro place samples field narrow wide entry
  refine ⟨fun n => ?_, fun hparty => ?_, fun hlow hhigh => ?_, fun hmix => ?_⟩
  · exact (tab_get _ n).trans (sampleAt_eq _ _ n)
  · have hkind := (kindOfChannel_eq_party_iff c).mpr hparty
    have hbody : f.bodyOf c = partyBody (field 0) (field 1) (field 2) (field 3) := by
      simp only [Frame.bodyOf, hkind]
      rfl
    have hrange : (if kindOfChannel c = .mix then wideSound samples else blockSound samples) ↔ narrow := by
      rw [hkind]
      exact Iff.rfl
    intro holder fits
    obtain ⟨hnone, hsome⟩ := partyBody_of (state := field 0) (flags := field 1) (holder := field 2) (count := field 3)
      (tag := holder) rfl
    refine ⟨fun hbad => entryOf_eq_none hfinal hshown ?_, fun hfits state hstate => ?_⟩
    · by_cases hnarrow : narrow
      · refine .inr (hbody.trans (hnone ?_))
        exact hbad.imp_left fun hbad hrest => hbad ⟨hnarrow, hrest⟩
      · exact .inl fun h => hnarrow (hrange.mp h)
    · obtain ⟨hnarrow, hrest⟩ := hfits
      exact entryOf_eq_entry hfinal hshown (hrange.mpr hnarrow) (hbody.trans (hsome hrest state hstate))
  · have hkind := (kindOfChannel_eq_feed_iff c).mpr ⟨hlow, hhigh⟩
    have hbody : f.bodyOf c = some .feed := by simp only [Frame.bodyOf, hkind]
    have hrange : (if kindOfChannel c = .mix then wideSound samples else blockSound samples) ↔ narrow := by
      rw [hkind]
      exact Iff.rfl
    exact ⟨fun h => entryOf_eq_entry hfinal hshown (hrange.mpr h) hbody,
      fun h => entryOf_eq_none hfinal hshown (.inl fun k => h (hrange.mp k))⟩
  · have hkind := (kindOfChannel_eq_mix_iff c).mpr hmix
    have hbody : f.bodyOf c = mixBody c f.sections.records := by simp only [Frame.bodyOf, hkind]
    have hrange : (if kindOfChannel c = .mix then wideSound samples else blockSound samples) ↔ wide := by
      rw [hkind]
      exact Iff.rfl
    intro named
    obtain ⟨hother, hone⟩ := mixBody_of_named (c := c) (records := f.sections.records)
    refine ⟨fun h => entryOf_eq_none hfinal hshown (.inr (hbody.trans (hother h))), fun r hr => ?_⟩
    intro fits
    have hmade := hbody.trans (hone r hr)
    refine ⟨fun hbad => entryOf_eq_none hfinal hshown ?_, fun hfits => ?_⟩
    · by_cases hwide : wide
      · refine .inr (hmade.trans (if_neg ?_))
        rw [recordWellFormed_iff]
        exact fun hpossible => hbad ⟨hwide, hpossible⟩
      · exact .inl fun h => hwide (hrange.mp h)
    · obtain ⟨hwide, hpossible⟩ := hfits
      have hwell := (recordWellFormed_iff r).mpr hpossible
      obtain ⟨_, _, _, _, hstamps⟩ := hpossible
      refine ⟨stationsOf r.terms, stationsOf_pairwise _, mem_stationsOf _, ?_, ?_⟩
      · rw [stationsOf_length, hstamps]
      · exact entryOf_eq_entry hfinal hshown (hrange.mpr hwide) (hmade.trans (if_pos hwell))

end Sys2Proof.Machine
end

section
/-! The returns and the cadence at a taken strobe (R116, R117, R122, R124, R136). -/

namespace Sys2Proof.Machine

/-! ## What a return is built from -/

/-- A return is built from the directory, the history and the station number, and of its port from the port state, the
settings, the talkback and the cadence counter. -/
structure sameReturn (u v : State) (p : Fin 8) : Prop where
  directory : u.directory = v.directory
  history : u.history = v.history
  number : u.stationNumber = v.stationNumber
  settings : (u.ports.get p).settings = (v.ports.get p).settings
  state : (u.ports.get p).state = (v.ports.get p).state
  talkback : (u.ports.get p).talkback = (v.ports.get p).talkback
  counter : (u.ports.get p).counter = (v.ports.get p).counter

theorem State.freshEntry_congr {u v : State} (h : u.directory = v.directory) : u.freshEntry = v.freshEntry := by
  funext tag
  simp only [State.freshEntry, State.entry, h]

theorem sameReturn.contribution {u v : State} {p : Fin 8} (h : sameReturn u v p) (entry : RecipeEntry) :
    u.contribution p entry = v.contribution p entry := by
  obtain ⟨_, _, _, _, _, _, hextras, _, _, _, hduck, _, _, _⟩ := Port.settings_eq_iff.mp h.settings
  have hfresh := State.freshEntry_congr h.directory
  have hminus : u.minusSet p = v.minusSet p := by
    simp only [State.minusSet, State.portTag, State.own, h.number, hextras]
  have hgain : effectiveGain (u.ports.get p) entry.gain = effectiveGain (v.ports.get p) entry.gain := by
    simp only [effectiveGain, h.talkback, hduck]
  simp only [State.contribution, State.mixContribution, State.directContribution, hfresh, hminus, hgain, h.history,
    h.number]

theorem sameReturn.recipe {u v : State} {p : Fin 8} (h : sameReturn u v p) :
    (u.ports.get p).recipe = (v.ports.get p).recipe := by
  obtain ⟨_, _, _, hscreen, hhold, hair, _⟩ := Port.settings_eq_iff.mp h.settings
  simp only [Port.recipe, h.state, hscreen, hhold, hair]

theorem sameReturn.cancelMisses {u v : State} {p : Fin 8} (h : sameReturn u v p) : u.cancelMisses p =
    v.cancelMisses p := by
  simp only [State.cancelMisses, h.recipe, h.contribution]

theorem sameReturn.paddedSum {u v : State} {p : Fin 8} (h : sameReturn u v p) : u.paddedSum p = v.paddedSum p := by
  obtain ⟨_, _, _, _, _, _, _, hpad, hsource, hgain, _, _, honTime, hamplitude⟩ := Port.settings_eq_iff.mp h.settings
  have hfresh := State.freshEntry_congr h.directory
  have hcue : u.cueAddition (u.ports.get p) = v.cueAddition (v.ports.get p) := by
    simp only [State.cueAddition, State.talkbackTerm, holdTone, hfresh, h.state, h.talkback, h.counter, hsource, hgain,
      honTime, hamplitude]
  simp only [State.paddedSum, State.returnSum, State.contributions, h.recipe, h.contribution, hcue, hpad]

theorem sameReturn.builtReturn {u v : State} {p : Fin 8} (h : sameReturn u v p) : u.builtReturn p =
    v.builtReturn p := by
  simp only [State.builtReturn, h.paddedSum]

/-! ## The port as the return is built -/

theorem Port.close_counter (q : Port) : q.close.counter = q.counter := by
  rw [Port.close_eq]
  split <;> rfl

/-- The cadence counter and the counts of a return are left alone until the returns are built. -/
theorem State.measured_counts (s : State) (inp : StrobeInput) (p : Fin 8) :
    ((s.measured inp).ports.get p).counter = (s.ports.get p).counter
      ∧ ((s.measured inp).ports.get p).misses = (s.ports.get p).misses
      ∧ ((s.measured inp).ports.get p).saturations = (s.ports.get p).saturations
      ∧ ((s.measured inp).ports.get p).missReported = (s.ports.get p).missReported := by
  obtain ⟨holder, queue, hclaimed⟩ := s.claimed_port_shape inp p
  have hfaulted : ((s.faulted inp).ports.get p).counter = (s.ports.get p).counter
      ∧ ((s.faulted inp).ports.get p).misses = (s.ports.get p).misses
      ∧ ((s.faulted inp).ports.get p).saturations = (s.ports.get p).saturations
      ∧ ((s.faulted inp).ports.get p).missReported = (s.ports.get p).missReported := by
    rw [State.faulted_port]
    split
    · rw [Port.changeState_outOfService]
      exact ⟨rfl, rfl, rfl, rfl⟩
    · exact ⟨rfl, rfl, rfl, rfl⟩
  rw [State.measured_port, State.checked_port, hclaimed]
  simp only [Port.close_eq]
  split_ifs <;> exact hfaulted

/-- A port in service after the strobe was moved by nothing (R57, R58, R60). -/
theorem State.unmoved_of_served {s : State} {inp : StrobeInput} (htakes : s.takesStrobes) {p : Fin 8}
    (h : ((s.afterStrobe inp).ports.get p).served = true) :
    ¬s.forced inp p ∧ (s.claimed inp).closesNow = false := by
  have hunforced : ¬s.forced inp p := by
    intro hforced
    rw [State.afterStrobe_port_of_forced htakes hforced] at h
    cases h
  refine ⟨hunforced, ?_⟩
  rcases Bool.eq_false_or_eq_true (s.claimed inp).closesNow with hcn | hcn
  · rw [Port.served, ((State.afterStrobe_port_state htakes p).2 hcn).1] at h
    split_ifs at h
  · exact hcn

/-- The return of a port in service is built from what the statement sees: the directory after the strobe, the rest
before it (R116, R117). -/
theorem State.sameReturn_statused {s : State} {inp : StrobeInput} (htakes : s.takesStrobes) {p : Fin 8}
    (h : ((s.afterStrobe inp).ports.get p).served = true) :
    sameReturn (s.statused inp) { s with directory := (s.afterStrobe inp).directory } p := by
  obtain ⟨hunforced, hopen⟩ := State.unmoved_of_served htakes h
  obtain ⟨holder, queue, hchecked⟩ := State.checked_port_of_unmoved hunforced hopen
  have hport : (s.statused inp).ports.get p =
      Machine.measured (s.captured p) { s.ports.get p with holder := holder, queue := queue } := by
    have hserved := (State.afterStrobe_port_served htakes p).symm.trans h
    rw [State.statused_ports, State.measured_port, if_pos hserved, hchecked]
  refine ⟨?_, s.statused_history inp, s.statused_stationNumber inp, ?_, ?_, ?_, ?_⟩
  · rw [State.statused_directory, s.afterStrobe_directory inp htakes]
  all_goals rw [hport]; rfl

/-! ## The port after its return -/

theorem State.afterStrobe_counts_of_built {s : State} {inp : StrobeInput} (htakes : s.takesStrobes) {p : Fin 8}
    (h : (s.statused inp).builds p = true) :
    (s.afterStrobe inp).output.get p = (s.statused inp).builtReturn p
      ∧ ((s.afterStrobe inp).ports.get p).misses
          = min 65535 ((s.ports.get p).misses + ((s.statused inp).cancelMisses p).length)
      ∧ ((s.afterStrobe inp).ports.get p).saturations = min 65535 ((s.ports.get p).saturations
          + ((List.finRange 16).filter fun n =>
              ((s.statused inp).paddedSum p).get n != ((s.statused inp).builtReturn p).get n).length)
      ∧ ((s.afterStrobe inp).ports.get p).missReported
          = ((s.ports.get p).missReported || !((s.statused inp).cancelMisses p).isEmpty) := by
  obtain ⟨_, hmisses, hsaturations, hreported⟩ := s.measured_counts inp p
  rw [← hmisses, ← hsaturations, ← hreported, s.afterStrobe_output inp htakes, State.returned_output,
    s.afterStrobe_ports inp htakes, State.cadenced_port, State.returned_port, if_pos h, if_pos h]
  split <;> exact ⟨rfl, rfl, rfl, rfl⟩

theorem State.afterStrobe_counts_of_unbuilt {s : State} {inp : StrobeInput} (htakes : s.takesStrobes) {p : Fin 8}
    (h : (s.statused inp).builds p = false) :
    (s.afterStrobe inp).output.get p = Block.zero
      ∧ ((s.afterStrobe inp).ports.get p).misses = (s.ports.get p).misses
      ∧ ((s.afterStrobe inp).ports.get p).saturations = (s.ports.get p).saturations
      ∧ ((s.afterStrobe inp).ports.get p).missReported = (s.ports.get p).missReported := by
  obtain ⟨_, hmisses, hsaturations, hreported⟩ := s.measured_counts inp p
  rw [← hmisses, ← hsaturations, ← hreported, s.afterStrobe_output inp htakes, State.returned_output,
    s.afterStrobe_ports inp htakes, State.cadenced_port, State.returned_port, h, if_neg Bool.false_ne_true,
      if_neg Bool.false_ne_true]
  split <;> exact ⟨rfl, rfl, rfl, rfl⟩

theorem State.cadenced_counter (s : State) (inp : StrobeInput) (p : Fin 8) :
    ((s.cadenced inp).ports.get p).state = ((s.returned inp).ports.get p).state
      ∧ ((s.cadenced inp).ports.get p).period = ((s.returned inp).ports.get p).period
      ∧ ((s.cadenced inp).ports.get p).counter =
        if ((s.returned inp).ports.get p).state = .hold then counterAfter ((s.returned inp).ports.get p)
        else ((s.returned inp).ports.get p).counter := by
  rw [State.cadenced_port]
  split <;> exact ⟨rfl, rfl, rfl⟩

/-- The cadence counter of every port (R136). -/
theorem State.afterStrobe_counter {s : State} {inp : StrobeInput} (htakes : s.takesStrobes) (p : Fin 8) :
    ((s.afterStrobe inp).ports.get p).counter =
      (if ((s.afterStrobe inp).ports.get p).state = .hold then
        (if (s.ports.get p).counter + 1 = (s.ports.get p).period then 0 else (s.ports.get p).counter + 1)
      else (s.ports.get p).counter) := by
  have hreturned : ((s.returned inp).ports.get p).counter = (s.ports.get p).counter := by
    rw [State.returned_port]
    split <;> exact (s.measured_counts inp p).1
  obtain ⟨hstate, hperiod, hcounter⟩ := s.cadenced_counter inp p
  obtain ⟨_, _, _, _, _, _, _, _, _, _, _, hkept, _⟩ :=
    Port.settings_eq_iff.mp (s.cadenced_advances inp p).settings
  rw [s.afterStrobe_ports inp htakes, hstate, hcounter, counterAfter, hreturned, ← hperiod, hkept]

/-- The first miss raises CANCEL_MISS while the flag is clear (R122, R125). -/
theorem State.told_cancelMiss {s : State} {inp : StrobeInput} (htakes : s.takesStrobes) {p : Fin 8} {tag : Tag}
    {cause : MissCause} {rest : List (Tag × MissCause)} (hbuilds : (s.statused inp).builds p = true)
    (hmisses : (s.statused inp).cancelMisses p = (tag, cause) :: rest) (hclear : (s.ports.get p).missReported = false) :
    (s.afterStrobe inp).told (.cancelMiss p tag cause) := by
  refine State.told_of_pass htakes (w := returnPass (s.statused inp)) (by simp [State.strobeChains])
    (chain := [.cancelMiss p tag cause]) ?_ (List.mem_singleton_self _)
  refine List.mem_map.mpr ⟨p, List.mem_finRange p, ?_⟩
  have hflag : ((s.statused inp).ports.get p).missReported = false := by
    rw [State.statused_ports, (s.measured_counts inp p).2.2.2, hclear]
  rw [if_pos hbuilds, State.missEvent, hmisses]
  exact if_neg (by rw [hflag]; exact Bool.false_ne_true)

/-- Settles O45: a return that is built, one that is not, and the cadence. -/
theorem strobesPlayTheReturns : Obligations.StrobesPlayTheReturns := by
  refine fun s inp htakes => ⟨s.afterStrobe inp, rfl, fun p => ?_⟩
  intro view misses
  have hbuilds := State.builds_eq (inp := inp) htakes p
  refine ⟨fun hactive hserved => ?_, fun hother => ?_, State.afterStrobe_counter htakes p⟩
  · rw [hactive, hserved] at hbuilds
    have hsame : sameReturn (s.statused inp) view p := State.sameReturn_statused htakes hserved
    obtain ⟨houtput, hmisses, hsaturations, hreported⟩ := State.afterStrobe_counts_of_built htakes hbuilds
    rw [hsame.builtReturn] at houtput hsaturations
    rw [hsame.cancelMisses] at hmisses hreported
    rw [hsame.paddedSum] at hsaturations
    refine ⟨houtput, hmisses, hsaturations, ?_, fun tag cause rest hfirst hclear =>
      State.told_cancelMiss htakes hbuilds (hsame.cancelMisses.trans hfirst) hclear⟩
    rw [hreported, Bool.or_eq_true, Bool.not_eq_true', List.isEmpty_eq_false_iff]
  · refine State.afterStrobe_counts_of_unbuilt htakes ?_
    rw [hbuilds]
    rcases hother with h | h <;> simp [h]

end Sys2Proof.Machine
end

section
/-! The accumulator (R42). Its value is the exact sum of what was added, whatever wrapped on the way; the register's
range
then bounds the carry count by the size of that sum. -/

namespace Sys2Proof.Machine

/-! ## Adding a term -/

theorem accAdd_of_over {acc : Accumulator} {term : Int} (h : 2147483647 < acc.register + term) :
    accAdd acc term = { register := acc.register + term - 4294967296, carry := acc.carry + 1 } :=
  if_pos h

theorem accAdd_of_under {acc : Accumulator} {term : Int} (h : acc.register + term < -2147483648) :
    accAdd acc term = { register := acc.register + term + 4294967296, carry := acc.carry - 1 } := by
  rw [accAdd, if_neg (show ¬acc.register + term > 2147483647 by omega), if_pos h]

theorem accAdd_of_within {acc : Accumulator} {term : Int} (hlow : -2147483648 ≤ acc.register + term)
    (hhigh : acc.register + term ≤ 2147483647) :
    accAdd acc term = { register := acc.register + term, carry := acc.carry } := by
  rw [accAdd, if_neg (show ¬acc.register + term > 2147483647 by omega),
    if_neg (show ¬acc.register + term < -2147483648 by omega)]

/-- A term wraps up, wraps down or stays within the register. -/
theorem accAdd_cases (acc : Accumulator) (term : Int) :
    2147483647 < acc.register + term
        ∧ accAdd acc term = { register := acc.register + term - 4294967296, carry := acc.carry + 1 }
      ∨ acc.register + term < -2147483648
        ∧ accAdd acc term = { register := acc.register + term + 4294967296, carry := acc.carry - 1 }
      ∨ (-2147483648 ≤ acc.register + term ∧ acc.register + term ≤ 2147483647)
        ∧ accAdd acc term = { register := acc.register + term, carry := acc.carry } := by
  by_cases hover : 2147483647 < acc.register + term
  · exact .inl ⟨hover, accAdd_of_over hover⟩
  · by_cases hunder : acc.register + term < -2147483648
    · exact .inr (.inl ⟨hunder, accAdd_of_under hunder⟩)
    · exact .inr (.inr ⟨⟨by omega, by omega⟩, accAdd_of_within (by omega) (by omega)⟩)

/-! ## The value -/

/-- What leaves the register goes into the carry count. -/
theorem accValue_accAdd (acc : Accumulator) (term : Int) : accValue (accAdd acc term) = accValue acc + term := by
  rcases accAdd_cases acc term with ⟨_, h⟩ | ⟨_, h⟩ | ⟨_, h⟩ <;> rw [h, accValue, accValue] <;> dsimp only <;> omega

theorem accValue_foldl (terms : List Int) : ∀ acc, accValue (terms.foldl accAdd acc) = accValue acc + terms.sum := by
  induction terms with
  | nil => simp
  | cons x xs ih =>
    intro acc
    rw [List.foldl_cons, ih, accValue_accAdd, List.sum_cons, Int.add_assoc]

@[simp] theorem accumulate_eq_sum (terms : List Int) : accumulate terms = terms.sum :=
  (accValue_foldl terms accStart).trans (Int.zero_add _)

/-! ## The register and the carry count -/

def Accumulator.inRange (acc : Accumulator) : Prop := -2147483648 ≤ acc.register ∧ acc.register ≤ 2147483647

theorem accAdd_inRange {acc : Accumulator} (hacc : acc.inRange) {term : Int} (hterm : term.natAbs ≤ 1073741824) :
    (accAdd acc term).inRange := by
  obtain ⟨hlow, hhigh⟩ := hacc
  rcases accAdd_cases acc term with ⟨hsum, h⟩ | ⟨hsum, h⟩ | ⟨hsum, h⟩ <;> rw [h, Accumulator.inRange] <;> dsimp only <;>
    omega

theorem foldl_accAdd_inRange {terms : List Int} (hterms : ∀ x ∈ terms, x.natAbs ≤ 1073741824) :
    (terms.foldl accAdd accStart).inRange := by
  suffices ∀ acc : Accumulator, acc.inRange → (terms.foldl accAdd acc).inRange from
    this accStart ⟨by decide, by decide⟩
  induction terms with
  | nil => exact fun _ hacc => hacc
  | cons x xs ih =>
    obtain ⟨hx, hxs⟩ := List.forall_mem_cons.mp hterms
    exact fun acc hacc => ih hxs _ (accAdd_inRange hacc hx)

theorem accAdd_carry (acc : Accumulator) (term : Int) : ((accAdd acc term).carry - acc.carry).natAbs ≤ 1 := by
  rcases accAdd_cases acc term with ⟨_, h⟩ | ⟨_, h⟩ | ⟨_, h⟩ <;> rw [h] <;> dsimp only <;> omega

/-- The sum of the terms is the register and the carry count. -/
theorem foldl_accAdd_eq (terms : List Int) :
    (terms.foldl accAdd accStart).register + (terms.foldl accAdd accStart).carry * 4294967296 = terms.sum :=
  accumulate_eq_sum terms

theorem sum_natAbs_le {bound : Nat} {terms : List Int} (h : ∀ x ∈ terms, x.natAbs ≤ bound) :
    terms.sum.natAbs ≤ terms.length * bound := by
  induction terms with
  | nil => simp
  | cons x xs ih =>
    obtain ⟨hx, hxs⟩ := List.forall_mem_cons.mp h
    calc (x :: xs).sum.natAbs ≤ x.natAbs + xs.sum.natAbs := Int.natAbs_add_le _ _
      _ ≤ bound + xs.length * bound := Nat.add_le_add hx (ih hxs)
      _ = (x :: xs).length * bound := by rw [List.length_cons, Nat.succ_mul, Nat.add_comm]

/-! ## The carry count within a mix and within a return -/

theorem carry_of_mix {terms : List Int} (hlen : terms.length ≤ 48)
    (hterms : ∀ x ∈ terms, -33554432 ≤ x ∧ x ≤ 33554428) :
    (terms.foldl accAdd accStart).carry = 0 := by
  have hsize : ∀ x ∈ terms, x.natAbs ≤ 33554432 := fun x hx => by have := hterms x hx; omega
  obtain ⟨hlow, hhigh⟩ := foldl_accAdd_inRange fun x hx => (hsize x hx).trans (by decide)
  have hsum := sum_natAbs_le hsize
  have hvalue := foldl_accAdd_eq terms
  omega

/-- Six contributions and one addition move the exact sum by less than two and a half turns of the register. -/
theorem carry_of_return {entries last : List Int} (hlen : entries.length ≤ 6) (hlast : last.length ≤ 1)
    (hentries : ∀ x ∈ entries, x.natAbs ≤ 1073741820) (haddition : ∀ x ∈ last, x.natAbs ≤ 33554432) :
    ((entries ++ last).foldl accAdd accStart).carry.natAbs ≤ 2 := by
  obtain ⟨hlow, hhigh⟩ := foldl_accAdd_inRange (terms := entries ++ last) fun x hx => by
    rcases List.mem_append.mp hx with h | h
    · exact (hentries x h).trans (by decide)
    · exact (haddition x h).trans (by decide)
  have hsum := sum_natAbs_le hentries
  have hmore := sum_natAbs_le haddition
  have hvalue := foldl_accAdd_eq (entries ++ last)
  rw [List.sum_append] at hvalue
  omega

/-! ## The sums of mixes and returns -/

theorem mixSums_get (included : List (Term × Entry)) (n : Fin 16) :
    (mixSums included).get n = (included.map fun i => roundedProduct (i.2.samples.get n) i.1.coefficient).sum := by
  rw [mixSums, tab_get, accumulate_eq_sum]

theorem mixSamples_get (included : List (Term × Entry)) (n : Fin 16) :
    (mixSamples included).get n =
      saturate28 (included.map fun i => roundedProduct (i.2.samples.get n) i.1.coefficient).sum := by
  rw [mixSamples, tab_get, mixSums_get]

theorem State.returnSum_get (s : State) (p : Fin 8) (n : Fin 16) :
    (s.returnSum p).get n = ((s.contributions p).map (fun c => c.at n)
      ++ (s.cueAddition (s.ports.get p)).toList.map fun b => b.get n).sum := by
  rw [State.returnSum, tab_get, accumulate_eq_sum]

theorem State.builtReturn_get (s : State) (p : Fin 8) (n : Fin 16) :
    (s.builtReturn p).get n = saturate24 ((s.paddedSum p).get n) :=
  tab_get _ n

/-- Settles O50: the value is the exact sum, so it does not depend on the order, and with the register in its range it
bounds the carry count. -/
theorem accumulatorsAreExact : Obligations.AccumulatorsAreExact := by
  refine ⟨fun register carry term => ⟨rfl, fun h => accAdd_of_over (by simpa using h),
      fun h => accAdd_of_under (by simpa using h),
      fun hlow hhigh => accAdd_of_within (by simpa using hlow) (by simpa using hhigh)⟩,
    accumulate_eq_sum, fun terms other hperm => ?perm,
    fun terms term hterms _ => ⟨foldl_accAdd_inRange hterms, accAdd_carry _ _⟩,
    fun terms hlen hterms => carry_of_mix hlen hterms, fun entries last hlen hentries hlow hhigh => ?carries,
    mixSamples_get, fun s p n => ?built⟩
  case perm => rw [accumulate_eq_sum, accumulate_eq_sum, hperm.sum_eq]
  case carries =>
    have hsize : ∀ x ∈ entries, x.natAbs ≤ 1073741820 := fun x hx => by have := hentries x hx; omega
    refine ⟨?_, carry_of_return hlen (Nat.le_refl 1) hsize ?_⟩
    · simpa using carry_of_return (last := []) hlen (Nat.zero_le 1) hsize (by simp)
    · simp only [List.mem_singleton, forall_eq]
      omega
  case built => rw [State.builtReturn_get, State.paddedSum_get, State.returnSum_get]

end Sys2Proof.Machine
end

section
/-! What a built return is (R41, R47, R48, R50, R118 to R124, R132, R133, R137, R138), and the exact cancellation of a
port's own terms (R45, R46, R107). -/

namespace Sys2Proof.Machine

/-! ## The sum of a return -/

theorem saturate24_eq (v : Int) : saturate24 v = max (-8388608) (min 8388607 v) := by
  rw [saturate24]
  split_ifs <;> omega

/-- The recipe that the port's state names (R118). -/
theorem Port.recipe_eq {q : Port} {recipe : List RecipeEntry}
    (h : q.state = .screen ∧ recipe = q.screenRecipe ∨ q.state = .hold ∧ recipe = q.holdRecipe
      ∨ q.state = .air ∧ recipe = q.airRecipe) : q.recipe = recipe := by
  rcases h with ⟨hst, rfl⟩ | ⟨hst, rfl⟩ | ⟨hst, rfl⟩ <;> simp only [Port.recipe, hst]

theorem weighted_get (block : Block) (level : Nat) (n : Fin 16) :
    (weighted block level).get n = roundedProduct (block.get n) level := tab_get _ n

/-- The talkback term (R133). -/
theorem State.talkbackTerm_get (s : State) (q : Port) (n : Fin 16) :
    (s.talkbackTerm q).get n =
      match q.source.bind s.freshEntry with
      | some e => roundedProduct (e.samples.get n) q.talkGain
      | none => 0 := by
  rw [State.talkbackTerm]
  rcases q.source with _ | tag
  · exact replicate_get 0 n
  · rcases hfresh : s.freshEntry tag with _ | e
    · simp only [Option.bind_some, hfresh]
      exact replicate_get 0 n
    · simp only [Option.bind_some, hfresh]
      exact weighted_get e.samples q.talkGain n

/-- What the cue unit adds at a position (R138). -/
theorem State.cueAddition_sum (s : State) (q : Port) (n : Fin 16) :
    ((s.cueAddition q).toList.map fun b => b.get n).sum =
      if q.talkback then (s.talkbackTerm q).get n
      else if q.state = .hold ∧ q.counter < q.onTime then
        if n.val < 8 then (q.amplitude : Int) else -(q.amplitude : Int)
      else 0 := by
  rw [State.cueAddition, ite_and]
  split_ifs with htalk hhold hon hfirst <;> simp [holdTone, tab_get, *]

/-! ## What an entry contributes -/

theorem State.contribution_direct (s : State) (p : Fin 8) {entry : RecipeEntry} (hkind : entry.tag.kind ≠ .mix)
    {e : Entry} (hfresh : s.freshEntry entry.tag = some e) :
    s.contribution p entry = .samples (weighted e.samples (effectiveGain (s.ports.get p) entry.gain)) := by
  simp only [State.contribution, if_neg hkind, State.directContribution, hfresh]

theorem State.contribution_gap (s : State) (p : Fin 8) {entry : RecipeEntry} (hfresh : s.freshEntry entry.tag = none) :
    s.contribution p entry = .gap := by
  simp only [State.contribution, State.mixContribution, State.directContribution, hfresh, ite_self]

/-- A fresh mix entry's contribution from its cleaned block (R120 to R122). -/
def contributionOf (result : MissCause ⊕ Block) (gain : Nat) : Contribution :=
  match result with
  | .inl cause => .miss cause
  | .inr block => .samples (weighted block gain)

theorem State.contribution_mix (s : State) (p : Fin 8) {entry : RecipeEntry} (hkind : entry.tag.kind = .mix) {e : Entry}
    {record : CompRecord} (hfresh : s.freshEntry entry.tag = some e) (hbody : e.body = .mix record) :
    s.contribution p entry =
      contributionOf (cleanedOf s.history s.stationNumber (s.minusSet p) e.samples record)
        (effectiveGain (s.ports.get p) entry.gain) := by
  simp only [State.contribution, if_pos hkind, State.mixContribution, hfresh, hbody]
  cases cleanedOf s.history s.stationNumber (s.minusSet p) e.samples record <;> rfl

/-! ## The cleaned block -/

section Cleaned

variable {history : List HistoryRecord} {lane : Fin 16} {minus : List Tag} {wide : Block} {record : CompRecord}
  {stamp : Seq}

theorem cleanedOf_of_none (hown : minusTerms record minus = []) :
    cleanedOf history lane minus wide record = .inr wide := by
  simp only [cleanedOf, hown]

theorem cleanedOf_of_clip (hown : minusTerms record minus ≠ []) (hclip : record.clip = true) :
    cleanedOf history lane minus wide record = .inl .clipped := by
  obtain ⟨t, rest, hterms⟩ := List.exists_cons_of_ne_nil hown
  simp only [cleanedOf, hterms, hclip, if_true]

theorem cleanedOf_of_unrecorded (hown : minusTerms record minus ≠ []) (hclip : record.clip = false)
    (hstamp : stampOf record lane = some stamp) (hnone : ∀ r ∈ history, r.sequence ≠ stamp) :
    cleanedOf history lane minus wide record = .inl .unrecorded := by
  obtain ⟨t, rest, hterms⟩ := List.exists_cons_of_ne_nil hown
  have hany : (history.any fun r => r.sequence == stamp) = false := by simpa [List.any_eq_false] using hnone
  simp only [cleanedOf, hterms, hclip, hstamp, hany, Bool.false_eq_true, if_false]

theorem cleanedOf_of_recorded (hown : minusTerms record minus ≠ []) (hclip : record.clip = false)
    (hstamp : stampOf record lane = some stamp) (hsome : ∃ r ∈ history, r.sequence = stamp) :
    cleanedOf history lane minus wide record =
      ((recordedTerms history stamp (minusTerms record minus)).elim (.inl .incomplete) fun recorded =>
        .inr (cleaned wide recorded)) := by
  obtain ⟨t, rest, hterms⟩ := List.exists_cons_of_ne_nil hown
  have hany : (history.any fun r => r.sequence == stamp) = true := by simpa [List.any_eq_true] using hsome
  simp only [cleanedOf, hterms, hclip, hstamp, hany, Bool.false_eq_true, if_false, if_true]
  cases recordedTerms history stamp (t :: rest) <;> rfl

theorem recordedTerms_of_incomplete {terms : List (Tag × Nat)}
    (h : ∃ t ∈ terms, lookup history stamp t.1.channel = .incomplete) : recordedTerms history stamp terms = none := by
  induction terms with
  | nil => simp at h
  | cons t rest ih =>
    rw [recordedTerms]
    split
    next samples hfound =>
      obtain ⟨u, hu, hincomplete⟩ := h
      rcases List.mem_cons.mp hu with rfl | hrest
      · rw [hfound] at hincomplete
        cases hincomplete
      · rw [ih ⟨u, hrest, hincomplete⟩, Option.map_none]
    next => rfl

theorem recordedTerms_of_found {terms : List (Tag × Nat)} {recorded : Tag → Block}
    (h : ∀ t ∈ terms, lookup history stamp t.1.channel = .found (recorded t.1)) :
    recordedTerms history stamp terms = some (terms.map fun t => (recorded t.1, t.2)) := by
  induction terms with
  | nil => rfl
  | cons t rest ih =>
    obtain ⟨ht, hrest⟩ := List.forall_mem_cons.mp h
    simp only [recordedTerms, ht, ih hrest, Option.map_some, List.map_cons]

/-- What is found under a sequence is in a record of that sequence (R116). -/
theorem exists_of_lookup_found {channel : Fin 16} {block : Block} (h : lookup history stamp channel = .found block) :
    ∃ r ∈ history, r.sequence = stamp := by
  rw [lookup] at h
  split at h
  next => cases h
  next r hfind => exact ⟨r, List.mem_of_find?_eq_some hfind, by simpa using List.find?_some hfind⟩

theorem cleanedOf_of_found (hown : minusTerms record minus ≠ []) (hclip : record.clip = false)
    (hstamp : stampOf record lane = some stamp) {recorded : Tag → Block}
    (hfound : ∀ t ∈ minusTerms record minus, lookup history stamp t.1.channel = .found (recorded t.1)) :
    cleanedOf history lane minus wide record =
      .inr (cleaned wide ((minusTerms record minus).map fun t => (recorded t.1, t.2))) := by
  obtain ⟨t, ht⟩ := List.exists_mem_of_ne_nil _ hown
  rw [cleanedOf_of_recorded hown hclip hstamp (exists_of_lookup_found (hfound t ht)), recordedTerms_of_found hfound]
  rfl

end Cleaned

/-! ## The obligations -/

/-- The cleaned block of recorded terms, weighted (R45, R47). -/
theorem weighted_cleaned (wide : Block) (terms : List (Tag × Nat)) (recorded : Tag → Block) (gain : Nat) :
    weighted (cleaned wide (terms.map fun t => (recorded t.1, t.2))) gain =
      tab fun n => roundedProduct
        (wide.get n - (terms.map fun t => roundedProduct ((recorded t.1).get n) t.2).sum) gain := by
  refine congrArg tab (funext fun n => ?_)
  rw [cleaned_get, List.map_map]
  rfl

/-- Settles O46: the sum of the return, and an entry's contribution by the cases of its cleaned block. -/
theorem returnsSumTheirContributions : Obligations.ReturnsSumTheirContributions := by
  intro s p q minus
  refine ⟨fun n recipe hrecipe => ?_, fun entry gain hgain => ⟨s.contribution_gap p, fun e hfresh =>
    ⟨fun hkind => ?_, fun hkind record hbody => ?_⟩⟩⟩
  · have hnamed : (s.ports.get p).recipe = recipe := Port.recipe_eq hrecipe
    refine ⟨?_, by rw [State.builtReturn_get, saturate24_eq], by subst hnamed; rfl⟩
    rw [State.returnSum_get, List.sum_append, s.cueAddition_sum, s.talkbackTerm_get, State.contributions, hnamed,
      List.map_map]
    rfl
  · rw [s.contribution_direct p hkind hfresh, hgain]
    rfl
  · intro own
    have hmix := s.contribution_mix p hkind hfresh hbody
    rw [show effectiveGain (s.ports.get p) entry.gain = gain from hgain.symm] at hmix
    rw [hmix]
    refine ⟨fun hown => ?_, fun hown hclip => ?_, fun hown hclip stamp hstamp =>
      ⟨fun hnone => ?_, fun hsome hmissing => ?_, fun recorded hfound => ?_⟩⟩
    · rw [cleanedOf_of_none hown]
      rfl
    · rw [cleanedOf_of_clip hown hclip]
      rfl
    · rw [cleanedOf_of_unrecorded hown hclip hstamp hnone]
      rfl
    · rw [cleanedOf_of_recorded hown hclip hstamp hsome,
        show recordedTerms s.history stamp (minusTerms record minus) = none from recordedTerms_of_incomplete hmissing]
      rfl
    · rw [cleanedOf_of_found hown hclip hstamp hfound]
      exact congrArg Contribution.samples (weighted_cleaned e.samples own recorded gain)

/-- A sum over a list is the sum over the terms that pass a test and the sum over those that do not. -/
theorem sum_map_filter_add {α : Type} (test : α → Bool) (f : α → Int) (terms : List α) :
    ((terms.filter test).map f).sum + ((terms.filter fun t => !test t).map f).sum = (terms.map f).sum := by
  induction terms with
  | nil => rfl
  | cons t rest ih =>
    rw [List.map_cons, List.sum_cons, ← ih]
    cases htest : test t <;> simp [htest] <;> ring

/-- What is recomputed from the history is what the minus set added, so taking it out of the exact sum leaves the other
terms; with no term in the minus set nothing is taken out. -/
theorem cleanedOf_of_exact {history : List HistoryRecord} {lane : Fin 16} {minus : List Tag} {wide : Block}
    {record : CompRecord} {stamp : Seq} {source : Tag → Block} (hclip : record.clip = false)
    (hsum : ∀ n, wide.get n = (record.terms.map fun t => roundedProduct ((source t.1).get n) t.2).sum)
    (hstamp : stampOf record lane = some stamp)
    (hfound : ∀ t ∈ record.terms, t.1 ∈ minus → lookup history stamp t.1.channel = .found (source t.1)) :
    ∃ block, cleanedOf history lane minus wide record = .inr block
      ∧ ∀ n, block.get n = ((record.terms.filter fun t => decide (t.1 ∉ minus)).map fun t =>
          roundedProduct ((source t.1).get n) t.2).sum := by
  have hothers : ∀ n, ((minusTerms record minus).map fun t => roundedProduct ((source t.1).get n) t.2).sum
      + ((record.terms.filter fun t => decide (t.1 ∉ minus)).map fun t => roundedProduct ((source t.1).get n) t.2).sum
        = wide.get n := fun n => by
    refine Eq.trans ?_ ((sum_map_filter_add (fun t => minus.contains t.1) _ record.terms).trans (hsum n).symm)
    simp [minusTerms]
  by_cases hown : minusTerms record minus = []
  · refine ⟨wide, cleanedOf_of_none hown, fun n => ?_⟩
    rw [← hothers n, hown]
    exact Int.zero_add _
  · have hlisted : ∀ t ∈ minusTerms record minus, lookup history stamp t.1.channel = .found (source t.1) :=
      fun t ht => by
      obtain ⟨hmem, hminus⟩ := List.mem_filter.mp ht
      exact hfound t hmem (by simpa using hminus)
    refine ⟨_, cleanedOf_of_found hown hclip hstamp hlisted, fun n => ?_⟩
    rw [cleaned_get, List.map_map, ← hothers n]
    exact add_sub_cancel_left ..

/-- Settles O52: the cleaned block is the exact sum of the other terms, whatever the minus set's samples were. -/
theorem cancellationIsExact : Obligations.CancellationIsExact := by
  intro s p entry e record source stamp hkind hfresh hbody hclip hsum hstamp hfound
  obtain ⟨block, hcleaned, hblock⟩ := cleanedOf_of_exact hclip hsum hstamp hfound
  rw [s.contribution_mix p hkind hfresh hbody, hcleaned]
  refine congrArg (fun f => Contribution.samples (tab f)) (funext fun n => ?_)
  rw [hblock]

end Sys2Proof.Machine
end

section
/-! The mixes at a taken strobe (R43, R44, R77 to R82, R85 to R87). -/

namespace Sys2Proof.Machine

/-! ## The terms included -/

theorem State.freshEntry_eq (s : State) (tag : Tag) : s.freshEntry tag = (s.entry tag).filter fun e => e.fresh := by
  rw [State.freshEntry]
  rcases s.entry tag with _ | e
  · rfl
  · cases hfresh : e.fresh <;> simp [hfresh, Option.filter]

theorem State.decided_congr {u v : State} (h : u.directory = v.directory) : u.decided = v.decided := by
  have hstatus : u.statusAfter = v.statusAfter := by
    funext mixTag tag status
    simp only [State.statusAfter, State.entry, h]
  funext mixTag e
  simp only [State.decided, hstatus]

theorem State.measured_decided {s : State} {inp : StrobeInput} (htakes : s.takesStrobes) :
    (s.measured inp).decided = (s.afterStrobe inp).decided :=
  State.decided_congr (by rw [State.measured_directory, s.afterStrobe_directory inp htakes])

/-- What is included depends on the terms, the directory and the station number. -/
theorem State.included_congr {u v : State} {m : Fin 4} (hterms : (u.mixes.get m).terms = (v.mixes.get m).terms)
    (hdirectory : u.directory = v.directory) (hnumber : u.stationNumber = v.stationNumber) : u.included m =
      v.included m := by
  simp only [State.included, State.includedEntry, State.mixTag, State.own, State.freshEntry_congr hdirectory, hterms,
    hnumber]

theorem State.mem_included {s : State} {m : Fin 4} {i : Term × Entry} (h : i ∈ s.included m) :
    s.freshEntry i.1.tag = some i.2 := by
  obtain ⟨e, _, he⟩ := List.mem_filterMap.mp h
  obtain ⟨x, hx, rfl⟩ := Option.map_eq_some_iff.mp he
  exact (Option.filter_eq_some_iff.mp hx).1

theorem State.afterStrobe_terms {s : State} {inp : StrobeInput} (htakes : s.takesStrobes) (m : Fin 4) :
    ((s.afterStrobe inp).mixes.get m).terms
      = (s.mixes.get m).terms.map ((s.afterStrobe inp).decided (s.mixTag m)) := by
  have hkept : ((s.checked inp).mixes.get m).terms = (s.mixes.get m).terms := by
    rw [State.checked_mix]
    split <;> rfl
  have hstatused : ((s.statused inp).mixes.get m).terms
      = (s.mixes.get m).terms.map ((s.afterStrobe inp).decided (s.mixTag m)) := by
    rw [State.statused_mix, State.measured_decided htakes, ← hkept]
  rw [s.afterStrobe_mixes inp htakes, State.composed_mix]
  split_ifs <;> exact hstatused

/-- What is composed is what the state after the strobe includes. -/
theorem State.afterStrobe_included {s : State} {inp : StrobeInput} (htakes : s.takesStrobes) (m : Fin 4) :
    (s.afterStrobe inp).included m = (s.cadenced inp).included m := by
  refine State.included_congr ?_ ?_ ?_
  · rw [s.afterStrobe_mixes inp htakes, State.composed_mix, State.cadenced_mixes]
    split_ifs <;> rfl
  · rw [s.afterStrobe_directory inp htakes, State.cadenced_directory]
  · rw [s.afterStrobe_stationNumber inp htakes, State.cadenced_stationNumber]

/-! ## Claim statuses (R85 to R87) -/

/-- The claim status of a PARTY term, as R85 decides it. -/
def State.statusOf (s : State) (mixTag : Tag) (e : Term) : Option ClaimStatus :=
  match s.entry e.tag with
  | none => some .unheard
  | some x => if x.fresh then (if x.holder = some mixTag then some .held else some .waiting) else e.status

theorem State.decided_status {s : State} {mixTag : Tag} {e : Term} (h : e.status ≠ none) :
    (s.decided mixTag e).status = s.statusOf mixTag e := by
  obtain ⟨status, hstatus⟩ := Option.ne_none_iff_exists'.mp h
  rw [State.decided, State.statusOf, hstatus]
  simp only [Option.map_some, State.statusAfter]
  rcases s.entry e.tag with _ | x
  · rfl
  · dsimp only
    split_ifs <;> rfl

theorem State.decided_eq (s : State) (mixTag : Tag) (e : Term) :
    s.decided mixTag e = if e.status = none then e else { e with status := s.statusOf mixTag e } := by
  split
  next hnone => rw [State.decided, hnone, Option.map_none, ← hnone]
  next hsome => rw [← State.decided_status hsome, State.decided]

theorem statusEvent_lost (mixTag party : Tag) {x : ClaimStatus} (h : x ≠ .held) :
    statusEvent mixTag party (some .held) (some x) = [.claimLost mixTag party x] := by
  cases x with
  | held => exact absurd rfl h
  | _ => rfl

theorem statusEvent_gained (mixTag party : Tag) {x : ClaimStatus} (h : x ≠ .held) :
    statusEvent mixTag party (some x) (some .held) = [.claimGained mixTag party] := by
  cases x with
  | held => exact absurd rfl h
  | _ => rfl

theorem State.told_status {s : State} {inp : StrobeInput} (htakes : s.takesStrobes) {m : Fin 4} {e : Term}
    (he : e ∈ (s.mixes.get m).terms) {event : Event}
    (hevent : event ∈ statusEvent (s.mixTag m) e.tag e.status ((s.afterStrobe inp).decided (s.mixTag m) e).status) :
    (s.afterStrobe inp).told event := by
  refine State.told_of_pass htakes (w := statusPass (s.measured inp)) (by simp [State.strobeChains]) ?_ hevent
  have hterms : ((s.measured inp).mixes.get m).terms = (s.mixes.get m).terms := by
    rw [State.measured_mixes, State.checked_mix]
    split <;> rfl
  have htag : (s.measured inp).mixTag m = s.mixTag m := by
    simp only [State.mixTag, State.own, State.measured_stationNumber]
  simp only [statusPass, List.mem_flatMap, List.mem_map]
  exact ⟨m, List.mem_finRange m, e, hterms.symm ▸ he, by rw [htag, State.measured_decided htakes]⟩

/-! ## The stamps (R81, R82) -/

/-- A fresh entry is of the frame that its lane delivered at the strobe (R25). -/
theorem State.frame_of_fresh {s : State} {inp : StrobeInput} (htakes : s.takesStrobes) {tag : Tag} {e : Entry}
    (h : (s.afterStrobe inp).freshEntry tag = some e) :
    ∃ f, s.blockFrame s.verdict tag.station = .valid f ∧ e.sequence = f.sequence := by
  rw [State.freshEntry_eq, Option.filter_eq_some_iff, State.entry, State.afterStrobe_entry htakes] at h
  obtain ⟨hentry, hfresh⟩ := h
  by_cases hheard : ∃ f, s.blockFrame s.verdict tag.station = .valid f
  · obtain ⟨f, hf⟩ := hheard
    rw [hf] at hentry
    obtain ⟨_, _, hsequence, _⟩ := entryOf_eq_some hentry
    exact ⟨f, hf, hsequence⟩
  · rw [entryAfter_of_unheard (not_exists.mp hheard), Option.ite_none_left_eq_some, Option.map_eq_some_iff] at hentry
    obtain ⟨_, old, _, rfl⟩ := hentry
    cases hfresh

theorem State.sequence_of_included {s : State} {inp : StrobeInput} (htakes : s.takesStrobes) {m : Fin 4}
    {i j : Term × Entry} (hi : i ∈ (s.afterStrobe inp).included m) (hj : j ∈ (s.afterStrobe inp).included m)
    (hlane : i.1.tag.station = j.1.tag.station) : i.2.sequence = j.2.sequence := by
  obtain ⟨f, hf, hif⟩ := State.frame_of_fresh htakes (State.mem_included hi)
  obtain ⟨g, hg, hjg⟩ := State.frame_of_fresh htakes (State.mem_included hj)
  rw [hlane, hg] at hf
  cases hf
  rw [hif, hjg]

theorem mixStamps_lanes (included : List (Term × Entry)) : ((mixStamps included).map (·.1)).Pairwise (· < ·) := by
  have hlanes : ∀ lanes : List (Fin 16), (lanes.filterMap fun l =>
      (included.find? fun te => te.1.tag.station == l).map fun te => (l, te.2.sequence)).map (·.1)
        = lanes.filter fun l => (included.find? fun te => te.1.tag.station == l).isSome := by
    intro lanes
    induction lanes with
    | nil => rfl
    | cons l rest ih =>
      cases hfind : included.find? fun te => te.1.tag.station == l <;> simp [hfind, ih]
  rw [mixStamps, hlanes]
  exact (List.pairwise_lt_finRange 16).filter _

/-- A lane's stamp is the sequence of its first included entry; where the lane's entries agree, it is that of any. -/
theorem mem_mixStamps {included : List (Term × Entry)}
    (hagree : ∀ i ∈ included, ∀ j ∈ included, i.1.tag.station = j.1.tag.station → i.2.sequence = j.2.sequence)
    (l : Fin 16) (q : Seq) :
    (l, q) ∈ mixStamps included ↔ ∃ i ∈ included, i.1.tag.station = l ∧ i.2.sequence = q := by
  simp only [mixStamps, List.mem_filterMap, List.mem_finRange, true_and, Option.map_eq_some_iff]
  constructor
  · rintro ⟨_, i, hfind, h⟩
    cases h
    exact ⟨i, List.mem_of_find?_eq_some hfind, by simpa using List.find?_some hfind, rfl⟩
  · rintro ⟨i, hi, hlane, hsequence⟩
    obtain ⟨j, hfind⟩ : ∃ j, (included.find? fun te => te.1.tag.station == l) = some j := by
      rw [← Option.isSome_iff_exists, List.find?_isSome]
      exact ⟨i, hi, by simpa using hlane⟩
    have hj : j.1.tag.station = l := by simpa using List.find?_some hfind
    have hseq := hagree j (List.mem_of_find?_eq_some hfind) i hi (hj.trans hlane.symm)
    exact ⟨l, j, hfind, by rw [hseq, hsequence]⟩

/-! ## Samples and clip flag (R43, R44) -/

theorem saturate28_eq (v : Int) : saturate28 v = max (-134217728) (min 134217727 v) := by
  rw [saturate28]
  split_ifs <;> omega

theorem saturate28_ne_iff (v : Int) : v ≠ saturate28 v ↔ 134217727 < v ∨ v < -134217728 := by
  rw [saturate28]
  split_ifs <;> omega

theorem clipFlag_eq_true_iff (sums wide : Block) : clipFlag sums wide = true ↔ ∃ n, sums.get n ≠ wide.get n := by
  simp [clipFlag, changedCount, List.length_pos_iff_exists_mem]

theorem mixRecord_clip_iff (m : Fin 4) (included : List (Term × Entry)) :
    (mixRecord m included).clip = true ↔ ∃ n : Fin 16,
      134217727 < (included.map fun i => roundedProduct (i.2.samples.get n) i.1.coefficient).sum
        ∨ (included.map fun i => roundedProduct (i.2.samples.get n) i.1.coefficient).sum < -134217728 := by
  simp only [mixRecord, clipFlag_eq_true_iff, mixSums_get, mixSamples_get, ← saturate28_ne_iff]

/-! ## What a mix keeps -/

/-- A station is in CLOSING after a strobe from CLOSING or by its withdrawal alone. -/
theorem State.closing_of_afterStrobe {s : State} {inp : StrobeInput} (htakes : s.takesStrobes)
    (h : (s.afterStrobe inp).stationName = .closing) : s.stationName = .closing ∨ s.stationName = .withdrawing := by
  rcases Bool.eq_false_or_eq_true s.conflicts with hc | hc
  · rw [State.stationName, State.afterStrobe_station_of_judged htakes (State.judged_station_of_conflicts inp hc)] at h
    cases h
  by_cases hwithdrawing : ∃ timer, s.station = .withdrawing timer
  · obtain ⟨timer, hst⟩ := hwithdrawing
    exact .inr (by rw [State.stationName, hst]; rfl)
  by_cases htest : ∃ test, s.station = .withdrawn (some test)
  · obtain ⟨test, hst⟩ := htest
    rw [State.stationName, State.afterStrobe_station_of_judged htakes (State.judged_station_of_test inp hst rfl)] at h
    split_ifs at h <;> cases h
  · have hjudged := State.judged_station_of_plain inp hc (not_exists.mp hwithdrawing) (not_exists.mp htest)
    rw [State.stationName, State.afterStrobe_station_of_judged htakes hjudged] at h
    refine .inl ?_
    cases hst : s.station with
    | closing cause finals => rw [State.stationName, hst]; rfl
    | starting quiet heard =>
      rw [hst] at h
      rcases quiet with _ | quiet
      · cases h
      · cases heard with
        | true => cases h
        | false =>
          simp only [Station.listened] at h
          split_ifs at h <;> cases h
    | withdrawing timer => exact absurd ⟨timer, hst⟩ hwithdrawing
    | withdrawn test =>
      cases test with
      | none => rw [hst] at h; cases h
      | some test => exact absurd ⟨test, hst⟩ htest
    | _ => rw [hst] at h; cases h

/-- A mix goes OFF at a strobe by the entry to CLOSING alone (R77). -/
theorem State.afterStrobe_live_iff {s : State} {inp : StrobeInput} (htakes : s.takesStrobes) (m : Fin 4) :
    ((s.afterStrobe inp).mixes.get m).live = true ↔
      (s.mixes.get m).live = true ∧ (s.stationName = .closing ∨ (s.afterStrobe inp).stationName ≠ .closing) := by
  have hcloses := State.closesNow_iff (inp := inp) htakes
  rw [State.afterStrobe_live htakes, State.checked_mix]
  split
  next h =>
    obtain ⟨hbefore, hafter⟩ := hcloses.mp h
    simp [hbefore, hafter]
  next h =>
    have hstays : s.stationName = .closing ∨ (s.afterStrobe inp).stationName ≠ .closing := by
      by_contra hno
      push Not at hno
      obtain ⟨hother, hclosing⟩ := hno
      exact h (hcloses.mpr ⟨(State.closing_of_afterStrobe htakes hclosing).resolve_left hother, hclosing⟩)
    exact (and_iff_left hstays).symm

/-- What a mix keeps of its last block (R78, R80). -/
theorem State.afterStrobe_last {s : State} {inp : StrobeInput} (htakes : s.takesStrobes) (m : Fin 4) :
    ((s.afterStrobe inp).active = true → ((s.afterStrobe inp).mixes.get m).live = true →
        ((s.afterStrobe inp).mixes.get m).lastIncluded = ((s.afterStrobe inp).included m).length
        ∧ ((s.afterStrobe inp).mixes.get m).lastClip = (mixRecord m ((s.afterStrobe inp).included m)).clip)
      ∧ ((s.afterStrobe inp).active = false ∨ ((s.afterStrobe inp).mixes.get m).live = false →
        ((s.afterStrobe inp).mixes.get m).lastIncluded = (s.mixes.get m).lastIncluded
        ∧ ((s.afterStrobe inp).mixes.get m).lastClip = (s.mixes.get m).lastClip) := by
  have hactive : (s.afterStrobe inp).active = (s.cadenced inp).active := by
    rw [s.afterStrobe_active inp htakes]
    exact (State.active_of_station (s.cadenced_station inp)).symm
  have hlive : ((s.afterStrobe inp).mixes.get m).live = ((s.statused inp).mixes.get m).live := by
    rw [State.afterStrobe_live htakes, State.statused_mix]
  rw [State.afterStrobe_included htakes, hactive, hlive, s.afterStrobe_mixes inp htakes, State.composed_mix]
  refine ⟨fun h k => ?_, fun h => ?_⟩
  · rw [if_pos ⟨h, k⟩]
    exact ⟨rfl, by dsimp only⟩
  · rw [if_neg (by rcases h with h | h <;> simp [h]), State.statused_mix, State.checked_mix]
    split_ifs <;> exact ⟨rfl, rfl⟩

/-- Settles O48: the terms and their events, the block composed, and what the mix keeps. -/
theorem strobesComposeTheMixes : Obligations.StrobesComposeTheMixes := by
  refine fun s inp htakes => ⟨s.afterStrobe inp, rfl, fun m => ?_⟩
  intro before after fresh status included sum
  have hstatus : ∀ e, status e = (s.afterStrobe inp).statusOf (s.mixTag m) e := fun _ => rfl
  have hincluded : (s.afterStrobe inp).included m = included := by
    refine List.filterMap_congr fun e _ => ?_
    have htag : (s.afterStrobe inp).mixTag m = s.mixTag m := by
      simp only [State.mixTag, State.own, s.afterStrobe_stationNumber inp htakes]
    rw [State.includedEntry, State.freshEntry_eq, htag]
  have hagree : ∀ i ∈ included, ∀ j ∈ included, i.1.tag.station = j.1.tag.station → i.2.sequence = j.2.sequence := by
    rw [← hincluded]
    exact fun i hi j hj => State.sequence_of_included htakes hi hj
  obtain ⟨hcounted, hkept⟩ := State.afterStrobe_last (inp := inp) htakes m
  refine ⟨?_, fun e he hheld hother x hx => ?_, fun e he hbefore hgained => ?_, hincluded,
    fun n => ?_, ?_, ?_, mixStamps_lanes _, ?_, ?_, fun h k => ?_, hkept, State.afterStrobe_live_iff htakes m⟩
  · exact (State.afterStrobe_terms htakes m).trans (List.map_congr_left fun e _ => State.decided_eq ..)
  · refine State.told_status htakes he ?_
    rw [State.decided_status (by simp [hheld]), ← hstatus, hx, hheld,
      statusEvent_lost _ _ fun h => hother (h ▸ hx)]
    exact List.mem_singleton_self _
  · refine State.told_status htakes he ?_
    rw [State.decided_status (by rcases hbefore with h | h <;> simp [h]), ← hstatus, hgained]
    rcases hbefore with h | h <;> rw [h, statusEvent_gained _ _ (by decide)] <;>
      exact List.mem_singleton_self _
  · rw [hincluded, mixSamples_get, saturate28_eq]
  · rfl
  · rw [hincluded]
    rfl
  · rw [hincluded]
    exact mem_mixStamps hagree
  · rw [hincluded]
    exact mixRecord_clip_iff m included
  · rw [← hincluded]
    exact hcounted h k

end Sys2Proof.Machine
end

section
/-! The frame sent at a taken strobe, the sequence counter and the history (R5 to R7, R83, R101, R113, R114, R178). -/

namespace Sys2Proof.Machine

/-! ## The content of a NORMAL frame -/

/-- A NORMAL frame's content depends on the station state, the ports, the mixes, the directory, the station number and
the captured samples. -/
theorem State.normalContent_congr {u v : State} (hstation : u.station = v.station) (hports : u.ports = v.ports)
    (hmixes : u.mixes = v.mixes) (hdirectory : u.directory = v.directory) (hnumber : u.stationNumber = v.stationNumber)
    (hcapture : u.capture = v.capture) : u.normalContent = v.normalContent := by
  have hincluded : u.included = v.included :=
    funext fun m => State.included_congr (by rw [hmixes]) hdirectory hnumber
  have hdescriptor : u.descriptor = v.descriptor := by
    funext c
    simp only [State.descriptor, hports]
  have hsamples : u.channelSamples = v.channelSamples := by
    funext c
    simp only [State.channelSamples, hcapture, hincluded]
  have hshown : u.shown = v.shown := by simp only [State.shown, hports, hmixes]
  simp only [State.normalContent, hshown, hdescriptor, hsamples, hincluded, State.withdrawingFlag, hstation,
    State.wants, State.liveMixes, State.mixTag, State.own, hmixes, hnumber]

theorem State.withdrawingFlag_iff (s : State) : s.withdrawingFlag = true ↔ s.stationName = .withdrawing := by
  cases hst : s.station <;> simp [State.withdrawingFlag, State.stationName, Station.name, hst]

theorem State.portChannel_mem_shown (s : State) (p : Fin 8) :
    portChannel p ∈ s.shown ↔ (s.ports.get p).served = true := by
  have hkind : kindOfChannel (portChannel p) = .party := (kindOfChannel_eq_party_iff _).mpr (Nat.le_of_lt_succ p.isLt)
  have hport : (⟨(portChannel p).val % 8, by omega⟩ : Fin 8) = p := Fin.ext (Nat.mod_eq_of_lt p.isLt)
  rw [State.mem_shown, hkind]
  dsimp only
  rw [hport]

theorem State.mixChannel_mem_shown (s : State) (m : Fin 4) : mixChannel m ∈ s.shown ↔ (s.mixes.get m).live = true := by
  have hkind : kindOfChannel (mixChannel m) = .mix := (kindOfChannel_eq_mix_iff _).mpr (Nat.le_add_right 12 m.val)
  have hmix : (⟨(mixChannel m).val % 4, by omega⟩ : Fin 4) = m := by
    apply Fin.ext
    have := m.isLt
    simp only [mixChannel]
    omega
  rw [State.mem_shown, hkind]
  dsimp only
  rw [hmix]

theorem State.shown_pairwise (s : State) : s.shown.Pairwise (· < ·) := (List.pairwise_lt_finRange 16).filter _

/-- The descriptor of a channel shown (R101). -/
theorem State.descriptor_of_shown {s : State} {c : Fin 16} (h : c ∈ s.shown) :
    s.descriptor c =
      if 8 ≤ c.val then [0, 0, 0, 0]
      else
        let q := s.ports.get ⟨c.val % 8, by omega⟩
        [match q.state with | .screen => 1 | .hold => 2 | .air => 3 | _ => 0,
          (if q.activity then 1 else 0) ||| (if q.holder.isSome then 2 else 0),
          match q.holder with | none => 0 | some h => tagByte h, BitVec.ofNat 8 q.queue.length] := by
  by_cases hparty : 8 ≤ c.val
  · have hkind : kindOfChannel c ≠ .party := by
      rw [Ne, kindOfChannel_eq_party_iff]
      omega
    rw [if_pos hparty, State.descriptor]
    split
    next h => exact absurd h hkind
    next => rfl
  · have hkind : kindOfChannel c = .party := (kindOfChannel_eq_party_iff c).mpr (by omega)
    rw [State.mem_shown, hkind] at h
    rw [if_neg hparty, State.descriptor, hkind]
    dsimp only at h ⊢
    generalize s.ports.get ⟨c.val % 8, _⟩ = q at h ⊢
    have hstate : be1 (portStateCode q.state) =
        [match q.state with | .screen => 1 | .hold => 2 | .air => 3 | _ => 0] := by
      rw [Port.served] at h
      cases hst : q.state <;> simp [hst] at h <;> rfl
    have hflags : be1 ((if q.activity then 1 else 0) + (if q.holder.isSome then 2 else 0))
        = [(if q.activity then 1 else 0) ||| (if q.holder.isSome then 2 else 0)] := by
      generalize q.holder.isSome = held
      cases q.activity <;> cases held <;> rfl
    have hholder : (q.holder.map tagByte).getD 0 = match q.holder with | none => 0 | some h => tagByte h := by
      cases q.holder <;> rfl
    rw [hstate, hflags, hholder]
    rfl

/-- The record of a NORMAL frame: the own PARTY and FEED channels shown (R113). -/
theorem State.recorded_eq (s : State) :
    s.recorded = (List.finRange 12).filterMap fun c =>
      if 8 ≤ c.val ∨ (s.ports.get ⟨c.val % 8, by omega⟩).served = true then some (⟨c.val, by omega⟩, s.capture.get c)
      else none := by
  have hchannels : List.finRange 16 = (List.finRange 12).map (Fin.castLE (by decide)) ++ [12, 13, 14, 15] := by decide
  rw [State.recorded, State.shown, List.filterMap_filter, hchannels, List.filterMap_append, List.filterMap_map]
  refine Eq.trans (congrArg₂ (· ++ ·) (List.filterMap_congr fun c _ => ?_) ?_) (List.append_nil _)
  · have hlt : (Fin.castLE (show 12 ≤ 16 by decide) c).val < 12 := c.isLt
    by_cases hfeed : 8 ≤ c.val
    · have hkind := (kindOfChannel_eq_feed_iff (Fin.castLE (show 12 ≤ 16 by decide) c)).mpr
        ⟨hfeed, Nat.le_of_lt_succ c.isLt⟩
      simp only [Function.comp_apply, hkind, if_true, dif_pos hlt, hfeed, true_or]
      rfl
    · have hkind := (kindOfChannel_eq_party_iff (Fin.castLE (show 12 ≤ 16 by decide) c)).mpr
        (Nat.le_of_lt_succ (Nat.not_le.mp hfeed))
      simp only [Function.comp_apply, hkind, dif_pos hlt, hfeed, false_or]
      rfl
  · simp

/-! ## The strobe -/

theorem Station.afterSending_name (st : Station) : st.afterSending.name = st.name := by
  cases st with
  | withdrawn test => cases test <;> rfl
  | _ => rfl

/-- A station that a strobe leaves in STARTING or CONFLICT, or WITHDRAWN without a test, sent nothing at it (R6). -/
theorem State.sendsNothing_of_after {s : State} {inp : StrobeInput} (htakes : s.takesStrobes)
    (h : (s.afterStrobe inp).stationName = .starting ∨ (s.afterStrobe inp).stationName = .conflict
      ∨ (s.afterStrobe inp).station = .withdrawn none) : sendsNothing (s.judged inp).station = true := by
  rw [State.stationName, State.afterStrobe_station_of_judged htakes rfl, Station.afterSending_name] at h
  cases hst : (s.judged inp).station with
  | withdrawn test =>
    cases test with
    | none => rfl
    | some test => rw [hst] at h; rcases h with h | h | h <;> cases h
  | _ => rw [hst] at h; rcases h with h | h | h <;> cases h <;> rfl

/-- The table of R114. -/
theorem placeRecord_cases (history : List HistoryRecord) (new : HistoryRecord) :
    (history = [] → placeRecord history new = [new])
      ∧ ∀ newest, history.getLast? = some newest →
        (new.sequence = newest.sequence + 1 →
          placeRecord history new = (history ++ [new]).drop ((history ++ [new]).length - 8))
        ∧ (new.sequence ≠ newest.sequence + 1 → placeRecord history new = [new]) := by
  refine ⟨fun h => by rw [h]; rfl, fun newest hnewest => ⟨fun h => ?_, fun h => ?_⟩⟩
  · simp only [placeRecord, hnewest, if_pos h]
  · simp only [placeRecord, hnewest, if_neg h]

/-- Settles O47: the frame's content is read off the state after the strobe with the block that was captured. -/
theorem strobesSendTheFrame : Obligations.StrobesSendTheFrame := by
  refine fun s inp htakes => ⟨s.afterStrobe inp, rfl, s.afterStrobe_position inp htakes, fun c => ?_, fun hactive => ?_,
    fun h => ?_⟩
  · rw [s.afterStrobe_capture inp htakes, replicate_get]
  · intro content new
    have hjudged : (s.judged inp).active = true := by rw [← State.afterStrobe_active_judged htakes, hactive]
    have hstation : (s.judged inp).station = (s.afterStrobe inp).station := by
      rw [State.afterStrobe_station_of_judged htakes rfl]
      rcases (s.judged inp).active_iff.mp hjudged with hst | ⟨timer, hst⟩ <;> rw [hst] <;> rfl
    have hcontent : (s.judged inp).normalContent = content :=
      State.normalContent_congr hstation ((s.judged_ports inp).trans (s.afterStrobe_ports inp htakes).symm)
        ((s.judged_mixes inp).trans (s.afterStrobe_mixes inp htakes).symm)
        ((s.judged_directory inp).trans (s.afterStrobe_directory inp htakes).symm)
        ((s.judged_stationNumber inp).trans (s.afterStrobe_stationNumber inp htakes).symm) (s.judged_capture inp)
    obtain ⟨hsent, hlout, hsequence, hhistory⟩ :=
      State.afterStrobe_of_frame htakes ((frameContent_of_active hjudged).trans (congrArg some hcontent))
    have hrecord : (s.afterStrobe inp).history = placeRecord s.history new := by
      have hchannels : (s.judged inp).recorded = new.channels := by
        rw [State.recorded_eq, State.judged_capture, State.judged_ports, ← s.afterStrobe_ports inp htakes]
      rw [hhistory, State.transmitted_history, if_pos hjudged, hchannels]
    have htag : ∀ m, ({ s.afterStrobe inp with capture := s.capture } : State).mixTag m = s.mixTag m := fun m =>
      congrArg (Tag.mk · (mixChannel m)) (s.afterStrobe_stationNumber inp htakes)
    rw [hrecord]
    refine ⟨hsent, hlout, hsequence, rfl, State.withdrawingFlag_iff _, State.portChannel_mem_shown _, fun c hfeed => ?_,
      State.mixChannel_mem_shown _, State.shown_pairwise _, ?_, ?_, rfl, rfl, placeRecord_cases s.history new⟩
    · exact (State.mem_shown _ c).mpr (by rw [hfeed]; trivial)
    · exact List.map_congr_left fun c hc => State.descriptor_of_shown hc
    · refine (List.flatMap_congr fun m _ => ?_)
      rw [htag]
      rfl
  · obtain ⟨hsent, _, hsequence, hhistory⟩ := State.afterStrobe_of_silent htakes (State.sendsNothing_of_after htakes h)
    exact ⟨hsent, hsequence, hhistory⟩

end Sys2Proof.Machine
end

section
/-! The strobe monitor and what the station does at a strobe loss and at the strobe's return (R2, R3, R20 to R22, R148,
R154). -/

namespace Sys2Proof.Machine

/-! ## One chain of events -/

/-- The events of one chain are queued in the chain's own order (R170). -/
theorem State.order_of_one (s : State) {chain : List Event} (h : chain ≠ []) : s.order [chain] = chain := by
  obtain ⟨e, rest, rfl⟩ := List.exists_cons_of_ne_nil h
  simp [State.order, interleave]

theorem State.queues_of_events {s u t : State} {raised : List Event} (hevents : u.events = s.events)
    (hoverflow : u.overflow = s.overflow) (h : u.queues t raised) : s.queues t raised := by
  rwa [State.queues, hevents, hoverflow] at h

/-! ## The strobe loss (R2, R21, R148, R154) -/

/-- The monitor at the fourth missing strobe (R2). -/
def State.lost (s : State) : State :=
  { s with monitor := { s.monitor with condition := .lost, reference := none, missed := 4 } }

theorem State.missStrobe_of_fourth {s : State} (h : s.monitor.missed = 3) :
    s.missStrobe = (lossPass s.lost).st.raiseAll (lossPass s.lost).chains := by
  simp only [State.missStrobe, h]
  rfl

/-- What a strobe loss leaves alone. -/
theorem lossPass_kept (s : State) :
    (lossPass s).st.monitor = s.monitor ∧ (lossPass s).st.sequence = s.sequence
      ∧ (lossPass s).st.echoMismatch = s.echoMismatch ∧ (lossPass s).st.mixes = s.mixes ∧ (lossPass s).st.link = s.link
      ∧ (lossPass s).st.events = s.events ∧ (lossPass s).st.overflow = s.overflow := by
  unfold lossPass
  dsimp only
  split <;> simp [State.enterUntimed, State.emptyAllClaims]

theorem lossPass_of_untimed {s : State}
    (h : s.stationName = .starting ∨ s.stationName = .running ∨ s.stationName = .withdrawing) :
    lossPass s = { st := s.enterUntimed, chains := [[.strobeLost s.stationName]] } := by
  cases hst : s.station <;> simp [State.stationName, Station.name, hst] at h <;> simp [lossPass, hst]

theorem lossPass_of_closing {s : State} {cause : ClosingCause} {finals : Nat} (h : s.station = .closing cause finals) :
    lossPass s =
      { st := { s.withStation (.withdrawn none) with lout := .released }
        chains := [[.strobeLost .closing, .withdrawDone cause finals]] } := by
  simp [lossPass, h, State.stationName, Station.name]

theorem lossPass_of_test {s : State} {test : LaneTest} (h : s.station = .withdrawn (some test)) :
    lossPass s =
      { st := { s.withStation (.withdrawn none) with lout := .released }
        chains := [[.strobeLost .withdrawn,
          .testDone s.stationNumber .aborted (test.judged - test.missing - test.differing)]] } := by
  simp [lossPass, h, State.stationName, Station.name, LaneTest.matched]

theorem lossPass_of_quiet {s : State} (h : s.station = .withdrawn none ∨ s.station = .conflict) :
    (lossPass s).st = s := by
  rcases h with h | h <;> simp [lossPass, h]

theorem lossPass_chains_of_plain {s : State} (hclosing : ∀ cause finals, s.station ≠ .closing cause finals)
    (htest : ∀ test, s.station ≠ .withdrawn (some test)) : (lossPass s).chains = [[.strobeLost s.stationName]] := by
  cases hst : s.station with
  | closing cause finals => exact absurd hst (hclosing cause finals)
  | withdrawn test =>
    cases test with
    | none => simp [lossPass, hst]
    | some test => exact absurd hst (htest test)
  | _ => simp [lossPass, hst]

/-- The events of a strobe loss follow those of the state before it. -/
theorem State.queues_of_loss {s : State} (h : s.monitor.missed = 3) {chain : List Event}
    (hchain : (lossPass s.lost).chains = [chain]) (hne : chain ≠ []) : s.queues s.missStrobe chain := by
  obtain ⟨_, _, _, _, _, hevents, hoverflow⟩ := lossPass_kept s.lost
  have hqueues := (lossPass s.lost).st.raiseAll_queues (lossPass s.lost).chains
  rw [← State.missStrobe_of_fourth h, hchain, State.order_of_one _ hne] at hqueues
  exact State.queues_of_events hevents hoverflow hqueues

/-- The entry to UNTIMED (R21). -/
theorem State.enterUntimed_fields (s : State) :
    s.enterUntimed.station = .untimed ∧ s.enterUntimed.lout = .released ∧ s.enterUntimed.history = []
      ∧ (∀ tag, s.enterUntimed.entry tag = none)
      ∧ (∀ l, s.enterUntimed.lanes.get l =
          { s.lanes.get l with frame := none, receive := .absent, finalMark := false, withdrawing := false })
      ∧ (∀ p, s.enterUntimed.ports.get p = { s.ports.get p with holder := none, queue := [] })
      ∧ ∀ p, s.enterUntimed.output.get p = Block.zero := by
  refine ⟨rfl, rfl, rfl, fun tag => ?_, fun l => ?_, fun p => ?_, fun p => ?_⟩
  · rw [State.entry, State.enterUntimed]
    dsimp only
    rw [replicate_get, replicate_get]
  · simp [State.enterUntimed, State.emptyAllClaims]
  · exact s.enterUntimed_port p
  · simp [State.enterUntimed, State.silence]

/-- A threshold of the monitor (R2): the fourth missing strobe, and what the station does at it. -/
theorem State.strobe_lost {s : State} (hreset : s.inReset = false) (htimed : s.monitor.condition = .timed)
    (hmissed : s.monitor.missed = 3) :
    exec .strobeMissing s = .next s.missStrobe ∧ exec .strobeLoss s = .next s.missStrobe := by
  constructor
  · show execStrobeMissing s = _
    simp [execStrobeMissing, hreset, htimed]
  · show execStrobeLoss s = _
    simp [execStrobeLoss, hreset, htimed, hmissed]

/-! ## The monitor at a strobe (R2, R3) -/

theorem State.afterStrobe_monitor_eq {s : State} {inp : StrobeInput} (hreset : s.inReset = false) :
    (s.afterStrobe inp).monitor = s.monitor.strobe inp.instant := by
  by_cases huntimed : s.station = .untimed
  · rcases Bool.eq_false_or_eq_true (s.monitor.returns inp.instant) with hreturns | hreturns
    · rw [s.afterStrobe_of_returns inp hreset huntimed hreturns,
        s.back.afterStrobe_monitor inp (s.back_takesStrobes hreset)]
      rfl
    · rw [s.afterStrobe_of_untimed inp hreset huntimed hreturns]
  · rw [s.afterStrobe_monitor inp ⟨hreset, huntimed⟩]
    rfl

theorem Monitor.strobe_of_timed {m : Monitor} (h : m.condition = .timed) (instant : Nat) :
    m.strobe instant = { m with reference := some instant, missed := 0 } := by
  simp only [Monitor.strobe, h]

/-- A strobe in LOST whose run stays below four (R3). -/
theorem Monitor.strobe_of_short {m : Monitor} (h : m.condition = .lost) {instant : Nat}
    (hrun : goodRunAfter m instant < 4) :
    m.strobe instant = { m with reference := some instant, missed := 0, goodRun := goodRunAfter m instant }
      ∧ m.returns instant = false := by
  have hstrobe : m.strobe instant =
      { m with reference := some instant, missed := 0, goodRun := goodRunAfter m instant } := by
    simp only [Monitor.strobe, h, if_neg (Nat.not_le.mpr hrun)]
  exact ⟨hstrobe, by simp [Monitor.returns, hstrobe, h]⟩

theorem Monitor.strobe_of_run {m : Monitor} (h : m.condition = .lost) {instant : Nat}
    (hrun : 4 ≤ goodRunAfter m instant) :
    m.strobe instant = { condition := .timed, reference := some instant, missed := 0, goodRun := 4 }
      ∧ m.returns instant = true := by
  have hstrobe : m.strobe instant = { condition := .timed, reference := some instant, missed := 0, goodRun := 4 } := by
    simp only [Monitor.strobe, h, if_pos hrun]
  exact ⟨hstrobe, by simp [Monitor.returns, hstrobe, h]⟩

theorem goodRunAfter_of_anew {m : Monitor} {instant : Nat}
    (h : m.reference = none ∨ ∃ r, m.reference = some r ∧ correctInterval r instant = false) :
    goodRunAfter m instant = 0 := by
  rcases h with h | ⟨r, h, hinterval⟩ <;> simp [goodRunAfter, *]

theorem goodRunAfter_of_correct {m : Monitor} {instant r : Nat} (h : m.reference = some r)
    (hlow : 63 * Config.ticksPerBlock ≤ 64 * (instant - r)) (hhigh : 64 * (instant - r) ≤ 65 * Config.ticksPerBlock) :
    goodRunAfter m instant = m.goodRun + 1 := by
  have hcorrect : correctInterval r instant = true := decide_eq_true ⟨hlow, hhigh⟩
  simp only [goodRunAfter, h, hcorrect, if_true]

/-- A strobe in LOST that does not complete the run; in UNTIMED it does nothing more (R1, R3). -/
theorem State.strobe_in_lost {s : State} {inp : StrobeInput} (hreset : s.inReset = false)
    (hlost : s.monitor.condition = .lost) (hrun : goodRunAfter s.monitor inp.instant < 4) :
    (s.afterStrobe inp).monitor =
        { s.monitor with
          reference := some inp.instant, missed := 0, goodRun := goodRunAfter s.monitor inp.instant }
      ∧ (s.station = .untimed →
        s.afterStrobe inp = { s with monitor := (s.afterStrobe inp).monitor, freeCount := s.freeCount + 1 }) := by
  obtain ⟨hstrobe, hreturns⟩ := Monitor.strobe_of_short hlost hrun
  have hmonitor := State.afterStrobe_monitor_eq (inp := inp) hreset
  refine ⟨hmonitor.trans hstrobe, fun huntimed => ?_⟩
  rw [hmonitor, s.afterStrobe_of_untimed inp hreset huntimed hreturns]

/-- STROBE_BACK is raised at the strobe that completes the run (R3). -/
theorem State.told_strobeBack {s : State} {inp : StrobeInput} (htakes : s.takesStrobes)
    (hreturns : s.monitor.returns inp.instant = true) : (s.afterStrobe inp).told (.strobeBack s.stationName) := by
  refine State.told_of_pass htakes (w := monitorPass inp.instant s) (by simp [State.strobeChains])
    (chain := [.strobeBack s.stationName]) ?_ (List.mem_singleton_self _)
  simp [monitorPass, hreturns, htakes.2]

/-- The strobe that completes the run brings an UNTIMED station back to STARTING (R22). -/
theorem State.strobe_of_back {s : State} {inp : StrobeInput} (hreset : s.inReset = false)
    (hreturns : s.monitor.returns inp.instant = true) (huntimed : s.station = .untimed) :
    (s.afterStrobe inp).station = .starting (some 0) false ∧ (s.afterStrobe inp).echoMismatch = 0
      ∧ (s.afterStrobe inp).sequence = s.sequence ∧ (s.afterStrobe inp).sent = none
      ∧ (s.afterStrobe inp).told (.strobeBack .starting) ∧ s.back.afterStrobe inp = s.afterStrobe inp := by
  have htakes := s.back_takesStrobes hreset
  have hst : s.back.station = .starting none false := rfl
  have hj : ¬s.back.judges := by simp [State.judges, hst]
  obtain ⟨hstation, hsequence, hsent, _⟩ := State.afterStrobe_of_quiet (inp := inp) (st := .starting (some 0) false)
    htakes hj (by rw [hst]; rfl) rfl rfl (by rw [hst]; nofun) (by rw [hst]; nofun) (by rw [hst]; rfl) (by rw [hst]; rfl)
  rw [s.afterStrobe_of_returns inp hreset huntimed hreturns]
  refine ⟨hstation, ?_, hsequence, hsent, State.told_strobeBack htakes hreturns, rfl⟩
  rw [State.afterStrobe_echoes htakes, State.verdict_of_not_judges hj]
  rfl

/-- CONFLICT and a WITHDRAWN station without a test stay as they are at a strobe (R6, R20). -/
theorem State.strobe_stays {s : State} {inp : StrobeInput} (htakes : s.takesStrobes)
    (hst : s.station = .conflict ∨ s.station = .withdrawn none) : (s.afterStrobe inp).station = s.station := by
  have hj : ¬s.judges := by rcases hst with hst | hst <;> simp [State.judges, hst]
  rcases hst with hst | hst
  · exact (State.afterStrobe_of_quiet htakes hj (by rw [hst]; rfl) (by rw [hst]; rfl) (by rw [hst]; rfl)
      (by rw [hst]; nofun) (by rw [hst]; nofun) (by rw [hst]; rfl) (by rw [hst]; rfl)).1
  · exact (State.afterStrobe_of_quiet htakes hj (by rw [hst]; rfl) (by rw [hst]; rfl) (by rw [hst]; rfl)
      (by rw [hst]; nofun) (by rw [hst]; nofun) (by rw [hst]; rfl) (by rw [hst]; rfl)).1

/-- What the fourth missing strobe leaves (R20, R21, R148, R154). -/
theorem State.missStrobe_station {s : State} (h : s.monitor.missed = 3) :
    (s.stationName = .starting ∨ s.stationName = .running ∨ s.stationName = .withdrawing →
        s.missStrobe.station = .untimed ∧ s.missStrobe.lout = .released ∧ s.missStrobe.history = []
        ∧ (∀ tag, s.missStrobe.entry tag = none)
        ∧ (∀ l, s.missStrobe.lanes.get l =
            { s.lanes.get l with frame := none, receive := .absent, finalMark := false, withdrawing := false })
        ∧ (∀ p, s.missStrobe.ports.get p = { s.ports.get p with holder := none, queue := [] })
        ∧ ∀ p, s.missStrobe.output.get p = Block.zero)
      ∧ ((∃ cause finals, s.station = .closing cause finals) ∨ (∃ test, s.station = .withdrawn (some test)) →
        s.missStrobe.station = .withdrawn none ∧ s.missStrobe.lout = .released ∧ s.missStrobe.lanes = s.lanes
        ∧ s.missStrobe.directory = s.directory ∧ s.missStrobe.ports = s.ports ∧ s.missStrobe.history = s.history
        ∧ s.missStrobe.output = s.output)
      ∧ (s.station = .withdrawn none ∨ s.station = .conflict →
        s.missStrobe.station = s.station ∧ s.missStrobe.lanes = s.lanes ∧ s.missStrobe.directory = s.directory
        ∧ s.missStrobe.ports = s.ports ∧ s.missStrobe.lout = s.lout ∧ s.missStrobe.history = s.history
        ∧ s.missStrobe.output = s.output) := by
  simp only [State.missStrobe_of_fourth h, State.entry, State.raiseAll_station, State.raiseAll_lout,
    State.raiseAll_history, State.raiseAll_directory, State.raiseAll_lanes, State.raiseAll_ports, State.raiseAll_output]
  refine ⟨fun hname => ?_, fun hst => ?_, fun hst => ?_⟩
  · rw [lossPass_of_untimed (s := s.lost) hname]
    exact s.lost.enterUntimed_fields
  · have hpass : (lossPass s.lost).st = { s.lost.withStation (.withdrawn none) with lout := .released } := by
      rcases hst with ⟨cause, finals, hst⟩ | ⟨test, hst⟩
      · rw [lossPass_of_closing (s := s.lost) hst]
      · rw [lossPass_of_test (s := s.lost) hst]
    rw [hpass]
    exact ⟨rfl, rfl, rfl, rfl, rfl, rfl, rfl⟩
  · rw [lossPass_of_quiet (s := s.lost) hst]
    exact ⟨rfl, rfl, rfl, rfl, rfl, rfl, rfl⟩

/-- Settles O32. -/
theorem strobesAreMonitored : Obligations.StrobesAreMonitored := by
  intro s hreset
  refine ⟨fun htimed hfew => ?_, fun htimed hmissed => ?_, fun htimed inp => ?_, fun hlost hreference => ?_,
    fun hlost inp hanew => ?_, fun hlost inp r hreference hlow hhigh => ⟨fun hfew => ?_, fun hthree => ?_⟩⟩
  · show execStrobeMissing s = _
    simp [execStrobeMissing, hreset, htimed, State.missStrobe, show ¬4 ≤ s.monitor.missed + 1 by omega]
  · obtain ⟨hmissing, hloss⟩ := State.strobe_lost hreset htimed hmissed
    obtain ⟨hmonitor, hsequence, hechoes, hmixes, hlink, _⟩ := lossPass_kept s.lost
    obtain ⟨huntimed, hwithdrawn, hquiet⟩ := State.missStrobe_station hmissed
    have ht := State.missStrobe_of_fourth hmissed
    refine ⟨s.missStrobe, hmissing, hloss, ?_, fun hclosing htest => ?_, ?_, ?_, ?_, ?_, huntimed,
      fun cause finals hst => ?_, fun test hst => ?_, hquiet⟩
    · rw [ht, State.raiseAll_monitor, hmonitor]
      rfl
    · exact State.queues_of_loss hmissed (lossPass_chains_of_plain (s := s.lost) hclosing htest) nofun
    · rw [ht, State.raiseAll_sequence, hsequence]
      rfl
    · rw [ht, State.raiseAll_echoMismatch, hechoes]
      rfl
    · rw [ht, State.raiseAll_mixes, hmixes]
      rfl
    · rw [ht, State.raiseAll_link, hlink]
      rfl
    · obtain ⟨hstation, hlout, hlanes, hdirectory, hports, hhistory, houtput⟩ := hwithdrawn (.inl ⟨cause, finals, hst⟩)
      exact ⟨hstation, hlout, hlanes, hdirectory, hports, hhistory, houtput,
        State.queues_of_loss hmissed (by rw [lossPass_of_closing (s := s.lost) hst]) nofun⟩
    · obtain ⟨hstation, hlout, hlanes, hdirectory, hports, hhistory, houtput⟩ := hwithdrawn (.inr ⟨test, hst⟩)
      exact ⟨hstation, hlout, hlanes, hdirectory, hports, hhistory, houtput,
        State.queues_of_loss hmissed (by rw [lossPass_of_test (s := s.lost) hst]; rfl) nofun⟩
  · exact ⟨s.afterStrobe inp, rfl, (State.afterStrobe_monitor_eq hreset).trans (Monitor.strobe_of_timed htimed _)⟩
  · show execGoodRunTimeout s = _
    simp [execGoodRunTimeout, hreset, hlost, Option.isSome_iff_ne_none.mpr hreference]
  · have hrun := goodRunAfter_of_anew hanew
    obtain ⟨hmonitor, huntimed⟩ := State.strobe_in_lost hreset hlost (by rw [hrun]; decide)
    rw [hrun] at hmonitor
    exact ⟨s.afterStrobe inp, rfl, hmonitor, huntimed⟩
  · have hrun := goodRunAfter_of_correct hreference hlow hhigh
    obtain ⟨hmonitor, huntimed⟩ := State.strobe_in_lost hreset hlost (by rw [hrun]; omega)
    rw [hrun] at hmonitor
    exact ⟨s.afterStrobe inp, rfl, hmonitor, huntimed⟩
  · have hrun := goodRunAfter_of_correct hreference hlow hhigh
    obtain ⟨hstrobe, hreturns⟩ := Monitor.strobe_of_run hlost (by rw [hrun]; omega)
    have hmonitor := (State.afterStrobe_monitor_eq (inp := inp) hreset).trans hstrobe
    refine ⟨s.afterStrobe inp, congrArg Host.Outcome.next (State.strobeWhen_of_due ?_), rfl, hmonitor,
      fun huntimed => ?_, fun hst => ?_⟩
    · rw [hmonitor, hlost]
      rfl
    · obtain ⟨hstation, hechoes, hsequence, hsent, htold, hback⟩ := State.strobe_of_back hreset hreturns huntimed
      exact ⟨hstation, hechoes, hsequence, hsent, htold, congrArg Host.Outcome.next hback⟩
    · have htakes : s.takesStrobes := ⟨hreset, by rcases hst with hst | hst <;> rw [hst] <;> nofun⟩
      exact ⟨State.strobe_stays htakes hst, State.told_strobeBack htakes hreturns⟩

end Sys2Proof.Machine
end

section
/-! What each pass of a taken strobe raises (R170): the events of the strobe, gathered from its passes. -/

namespace Sys2Proof.Machine

/-- The events that a pass raises. -/
def Work.raised (w : Work) : List Event := w.chains.flatten

theorem Work.raised_silent (s : State) : (Work.silent s).raised = [] := rfl

/-- The passes of a taken strobe that raise events, each on the state that the passes before it left. -/
def State.strobeWorks (s : State) (inp : StrobeInput) : List Work :=
  [ monitorPass inp.instant s
  , faultPass .a (faultInput inp .a) (s.sampledIn inp .a)
  , faultPass .b (faultInput inp .b) (s.sampledIn inp .b)
  , echoPass s.verdict (s.faulted inp)
  , listenPass (s.echoed inp)
  , closedPass (s.listened inp)
  , lanePass (s.blockFrames s.verdict) (s.closed inp)
  , claimPass (s.blockFrames s.verdict) (s.absentLanes (s.blockFrames s.verdict)) (s.filed inp)
  , withdrawalPass (s.claimed inp)
  , measurePass (s.checked inp)
  , statusPass (s.measured inp)
  , returnPass (s.statused inp)
  , testPass (s.composed inp) ]

theorem State.strobeChains_eq (s : State) (inp : StrobeInput) :
    s.strobeChains inp = (s.strobeWorks inp).map Work.chains := rfl

theorem State.strobeChains_flatten (s : State) (inp : StrobeInput) :
    (s.strobeChains inp).flatten.flatten = ((s.strobeWorks inp).map Work.raised).flatten := by
  rw [State.strobeChains_eq, List.flatten_flatten, List.map_map]
  rfl

/-! ## The passes that raise one event at most -/

theorem monitorPass_raised {s : State} (h : s.station ≠ .untimed) (instant : Nat) :
    (monitorPass instant s).raised = if s.monitor.returns instant then [.strobeBack s.stationName] else [] := by
  simp only [monitorPass, if_neg h]
  split <;> rfl

theorem faultPass_raised (g : Group) (sample : Bool) (s : State) :
    (faultPass g sample s).raised =
      if sample = s.level g then []
      else if sample then [.groupFault g (4 - s.outOfService (portsOf g))]
      else [.groupClear g (s.outOfService (portsOf g))] := by
  rw [faultPass]
  split_ifs <;> rfl

theorem State.echoPass_raised (s : State) (inp : StrobeInput) :
    (echoPass s.verdict (s.faulted inp)).raised =
      if s.conflicts then [.laneConflict s.stationNumber .echo] else [] := by
  cases hv : s.verdict with
  | notJudged => rw [State.conflicts_eq_false (by simp [hv])]; rfl
  | matched => rw [State.conflicts_eq_false (by simp [hv])]; rfl
  | mismatched =>
    rcases Nat.lt_or_ge s.echoMismatch 2 with hfew | hlimit
    · rw [State.conflicts_eq_false fun _ => hfew, echoPass_of_few (by simpa using hfew)]
      rfl
    · rw [s.conflicts_eq_true_iff.mpr ⟨hv, hlimit⟩, echoPass_of_limit (by simpa using hlimit),
        State.faulted_stationNumber]
      rfl

/-- The listen window is over at this strobe (R19). -/
def Station.starts (st : Station) : Bool :=
  match st with
  | .starting (some quiet) false => decide (16 ≤ quiet + 1)
  | _ => false

theorem listenPass_raised (s : State) :
    (listenPass s).raised =
      if s.station.clashes then [.laneConflict s.stationNumber .listen]
      else if s.station.starts then [.stationRunning s.sequence] else [] := by
  unfold listenPass Station.clashes Station.starts
  cases hst : s.station with
  | starting quiet heard =>
    cases quiet with
    | none => rfl
    | some quiet =>
      cases heard with
      | true => rfl
      | false => simp only [decide_eq_true_eq, Bool.false_eq_true, if_false]; split_ifs <;> rfl
  | _ => rfl

theorem closedPass_raised (s : State) :
    (closedPass s).raised =
      match s.station with
      | .closing cause finals => if finals < 8 then [] else [.withdrawDone cause finals]
      | _ => [] := by
  unfold closedPass
  cases s.station with
  | closing cause finals => dsimp only; split_ifs <;> rfl
  | _ => rfl

theorem withdrawalPass_raised (s : State) :
    (withdrawalPass s).raised =
      match s.station with
      | .withdrawing timer => if s.heldPorts ≠ 0 ∧ 30000 ≤ timer + 1 then [.withdrawDenied s.heldPorts] else []
      | _ => [] := by
  unfold withdrawalPass
  cases s.station with
  | withdrawing timer =>
    dsimp only
    by_cases hheld : s.heldPorts = 0
    · rw [if_pos hheld, if_neg fun h => h.1 hheld]; rfl
    · rcases Nat.lt_or_ge (timer + 1) 30000 with h | h
      · rw [if_neg hheld, if_pos h, if_neg (by omega)]; rfl
      · rw [if_neg hheld, if_neg (by omega), if_pos ⟨hheld, h⟩]; rfl
  | _ => rfl

theorem testPass_raised (s : State) :
    (testPass s).raised =
      match s.station with
      | .withdrawn (some test) =>
        let after := test.judge (testVerdict s.sent (s.lanes.get s.stationNumber).frame)
        if test.judged < test.sent then
          if 4 ≤ after.judged then [.testDone s.stationNumber after.result after.matched] else []
        else []
      | _ => [] := by
  unfold testPass
  cases s.station with
  | withdrawn test =>
    cases test with
    | none => rfl
    | some test =>
      dsimp only
      split_ifs <;> rfl
  | _ => rfl

/-! ## The lanes (R11 to R13) -/

theorem mem_laneEvent_iff (l : Fin 16) (lane : Lane) (frame : BlockFrame) (e : Event) :
    e ∈ laneEvent l lane frame ↔
      (∃ third, e = .lanePresent l third ∧ (∃ previous acquired, lane.receive = .acquiring previous acquired)
        ∧ receiveAfter lane frame = .present third)
      ∨ (∃ previous, e = .laneLost l previous ∧ (∃ misses, lane.receive = .lapsed previous misses)
        ∧ receiveAfter lane frame = .absent ∧ (lane.finalMark = false ∨ frame ≠ .missing))
      ∨ ∃ previous, e = .laneWithdrawn l previous
        ∧ (lane.receive = .present previous ∨ ∃ misses, lane.receive = .lapsed previous misses)
        ∧ lane.finalMark = true ∧ frame = .missing := by
  unfold laneEvent receiveAfter
  cases frame with
  | valid f =>
    cases hreceive : lane.receive with
    | acquiring previous acquired =>
      by_cases hnext : f.sequence = previous + 1
      · by_cases hthird : 2 ≤ acquired
        · simp [receiveValid, hnext, hthird]
        · simp [receiveValid, hnext, hthird]
      · simp [show receiveValid (.acquiring previous acquired) f.sequence = .acquiring f.sequence 1 from if_neg hnext]
    | _ => simp [receiveValid]
  | invalid =>
    cases hreceive : lane.receive with
    | lapsed previous misses =>
      by_cases hlimit : 7 ≤ misses
      · simp [receiveMiss, hlimit]
      · simp [receiveMiss, hlimit]
    | _ => simp [receiveMiss]
  | missing =>
    cases hmark : lane.finalMark with
    | true => cases hreceive : lane.receive <;> simp
    | false =>
      cases hreceive : lane.receive with
      | lapsed previous misses =>
        by_cases hlimit : 7 ≤ misses
        · simp [receiveMiss, hlimit]
        · simp [receiveMiss, hlimit]
      | _ => simp [receiveMiss]

theorem State.mem_lanePass {s : State} {inp : StrobeInput} {e : Event} :
    e ∈ (lanePass (s.blockFrames s.verdict) (s.closed inp)).raised
      ↔ ∃ l, e ∈ laneEvent l (s.lanes.get l) (s.blockFrame s.verdict l) := by
  simp only [Work.raised, lanePass, State.closed_lanes, State.blockFrames, tab_get, List.mem_flatten, List.mem_map,
    List.mem_finRange, true_and, exists_exists_eq_and]

/-! ## The ports and the mixes -/

/-- The dropped holders (R92). -/
theorem State.claimPass_raised (s : State) (inp : StrobeInput) :
    (claimPass (s.blockFrames s.verdict) (s.absentLanes (s.blockFrames s.verdict)) (s.filed inp)).raised =
      if (s.closed inp).active then
        (List.finRange 8).filterMap fun p =>
          (droppedHolder (s.absentLanes (s.blockFrames s.verdict)) ((s.listened inp).ports.get p)).map (.claimDropped p)
      else [] := by
  have hactive : (s.filed inp).active = (s.closed inp).active := State.active_of_station (s.filed_station inp)
  rw [claimPass, hactive, State.filed_ports]
  split
  · exact List.append_nil _
  · rfl

theorem State.mem_claimPass {s : State} {inp : StrobeInput} {e : Event} :
    e ∈ (claimPass (s.blockFrames s.verdict) (s.absentLanes (s.blockFrames s.verdict)) (s.filed inp)).raised
      ↔ ∃ p mix, e = .claimDropped p mix ∧ (s.closed inp).active = true
        ∧ ((s.listened inp).ports.get p).holder = some mix
        ∧ goesAbsent (s.lanes.get mix.station) (s.blockFrame s.verdict mix.station) = true := by
  rw [State.claimPass_raised]
  by_cases hactive : (s.closed inp).active = true
  · simp only [if_true, List.mem_filterMap, List.mem_finRange, true_and, Option.map_eq_some_iff, droppedHolder,
      Option.filter_eq_some_iff, State.absentLanes, State.blockFrames, tab_get, hactive]
    exact ⟨fun ⟨p, mix, ⟨hholder, habsent⟩, he⟩ => ⟨p, mix, he.symm, hholder, habsent⟩,
      fun ⟨p, mix, he, hholder, habsent⟩ => ⟨p, mix, ⟨hholder, habsent⟩, he.symm⟩⟩
  · simp [hactive]

theorem State.mem_measurePass {s : State} {inp : StrobeInput} {e : Event} :
    e ∈ (measurePass (s.checked inp)).raised
      ↔ ∃ p, e = .partyActive p ((s.checked inp).ports.get p).state ∧ ((s.checked inp).ports.get p).served = true
        ∧ givesNotice ((s.checked inp).ports.get p)
          (activityBit (peakOf (s.captured p)) ((s.checked inp).ports.get p).threshold) = true := by
  have hcaptured : ∀ p, (s.checked inp).captured p = s.captured p := fun p => by
    simp only [State.captured, State.checked_capture]
  simp only [Work.raised, measurePass, hcaptured, List.mem_flatten, List.mem_map, List.mem_finRange, true_and,
    exists_exists_eq_and, List.mem_ite_nil_right, Bool.and_eq_true, List.mem_singleton]
  exact ⟨fun ⟨p, h, he⟩ => ⟨p, he, h⟩, fun ⟨p, he, h⟩ => ⟨p, h, he⟩⟩

theorem State.statusPass_raised {s : State} {inp : StrobeInput} (htakes : s.takesStrobes) :
    (statusPass (s.measured inp)).raised = (List.finRange 4).flatMap fun m => (s.mixes.get m).terms.flatMap fun a =>
      statusEvent (s.mixTag m) a.tag a.status ((s.afterStrobe inp).decided (s.mixTag m) a).status := by
  have hterms : ∀ m, ((s.measured inp).mixes.get m).terms = (s.mixes.get m).terms := fun m => by
    rw [State.measured_mixes, State.checked_mix]
    split <;> rfl
  have htag : ∀ m, (s.measured inp).mixTag m = s.mixTag m := fun m => by
    simp only [State.mixTag, State.own, State.measured_stationNumber]
  simp only [Work.raised, statusPass, hterms, htag, State.measured_decided htakes, List.flatMap, List.flatten_flatten,
    List.map_map]
  rfl

theorem State.mem_statusPass {s : State} {inp : StrobeInput} (htakes : s.takesStrobes) {e : Event} :
    e ∈ (statusPass (s.measured inp)).raised ↔ ∃ m, ∃ a ∈ (s.mixes.get m).terms,
      e ∈ statusEvent (s.mixTag m) a.tag a.status ((s.afterStrobe inp).decided (s.mixTag m) a).status := by
  simp only [State.statusPass_raised htakes, List.mem_flatMap, List.mem_finRange, true_and]

/-- A change of claim status (R86, R87). -/
theorem mem_statusEvent_iff (mixTag party : Tag) (before after : Option ClaimStatus) (e : Event) :
    e ∈ statusEvent mixTag party before after ↔
      (e = .claimGained mixTag party ∧ (before = some .waiting ∨ before = some .unheard) ∧ after = some .held)
      ∨ ∃ entered, e = .claimLost mixTag party entered ∧ before = some .held ∧ after = some entered
        ∧ entered ≠ .held := by
  rcases before with _ | _ | _ | _ <;> rcases after with _ | _ | _ | _ <;> simp [statusEvent]

theorem State.mem_returnPass {s : State} {e : Event} :
    e ∈ (returnPass s).raised ↔ ∃ p mix cause, e = .cancelMiss p mix cause ∧ s.builds p = true
      ∧ (s.ports.get p).missReported = false ∧ (s.cancelMisses p).head? = some (mix, cause) := by
  have hmiss : ∀ p, e ∈ s.missEvent p ↔ ∃ mix cause, e = .cancelMiss p mix cause
      ∧ (s.ports.get p).missReported = false ∧ (s.cancelMisses p).head? = some (mix, cause) := by
    intro p
    rw [State.missEvent]
    rcases s.cancelMisses p with _ | ⟨⟨mix, cause⟩, rest⟩
    · simp
    · cases (s.ports.get p).missReported <;> simp
  simp only [Work.raised, returnPass, List.mem_flatten, List.mem_map, List.mem_finRange, true_and, exists_exists_eq_and,
    List.mem_ite_nil_right, hmiss]
  exact ⟨fun ⟨p, hbuilds, mix, cause, he, h⟩ => ⟨p, mix, cause, he, hbuilds, h⟩,
    fun ⟨p, mix, cause, he, hbuilds, h⟩ => ⟨p, hbuilds, mix, cause, he, h⟩⟩

end Sys2Proof.Machine
end

section
/-! The events of a taken strobe, kind by kind (R168 to R170): which pass raises each, and that none is raised twice. -/

namespace Sys2Proof.Machine

/-! ## The events gathered -/

/-- What a taken strobe raises: the condition of the pass that raises it. -/
inductive State.Raises (s : State) (inp : StrobeInput) : Event → Prop where
  | back (h : s.monitor.returns inp.instant = true) : s.Raises inp (.strobeBack s.stationName)
  | fault (g : Group) (hlevel : s.level g = false) (hsample : faultInput inp g = true) :
      s.Raises inp (.groupFault g (4 - s.outOfService (portsOf g)))
  | clear (g : Group) (hlevel : s.level g = true) (hsample : faultInput inp g = false) :
      s.Raises inp (.groupClear g (s.outOfService (portsOf g)))
  | echo (h : s.conflicts = true) : s.Raises inp (.laneConflict s.stationNumber .echo)
  | clash (h : s.station.clashes = true) : s.Raises inp (.laneConflict s.stationNumber .listen)
  | start (h : s.station.starts = true) : s.Raises inp (.stationRunning s.sequence)
  | done (cause : ClosingCause) (finals : Nat) (hst : s.station = .closing cause finals) (hover : 8 ≤ finals) :
      s.Raises inp (.withdrawDone cause finals)
  | present (l : Fin 16) (third : Seq)
      (hbefore : ∃ previous acquired, (s.lanes.get l).receive = .acquiring previous acquired)
      (hafter : receiveAfter (s.lanes.get l) (s.blockFrame s.verdict l) = .present third) :
      s.Raises inp (.lanePresent l third)
  | lost (l : Fin 16) (previous : Seq) (hbefore : ∃ misses, (s.lanes.get l).receive = .lapsed previous misses)
      (hafter : receiveAfter (s.lanes.get l) (s.blockFrame s.verdict l) = .absent)
      (hmark : (s.lanes.get l).finalMark = false ∨ s.blockFrame s.verdict l ≠ .missing) :
      s.Raises inp (.laneLost l previous)
  | withdrawn (l : Fin 16) (previous : Seq)
      (hbefore : (s.lanes.get l).receive = .present previous ∨ ∃ misses, (s.lanes.get l).receive =
        .lapsed previous misses)
      (hmark : (s.lanes.get l).finalMark = true) (hmissing : s.blockFrame s.verdict l = .missing) :
      s.Raises inp (.laneWithdrawn l previous)
  | dropped (p : Fin 8) (mix : Tag) (hactive : (s.closed inp).active = true)
      (hholder : ((s.listened inp).ports.get p).holder = some mix)
      (habsent : goesAbsent (s.lanes.get mix.station) (s.blockFrame s.verdict mix.station) = true) :
      s.Raises inp (.claimDropped p mix)
  | denied (timer : Nat) (hst : (s.closed inp).station = .withdrawing timer) (hheld : (s.claimed inp).heldPorts ≠ 0)
      (hlimit : 30000 ≤ timer + 1) : s.Raises inp (.withdrawDenied (s.claimed inp).heldPorts)
  | active (p : Fin 8) (hserved : ((s.checked inp).ports.get p).served = true)
      (hgives : givesNotice ((s.checked inp).ports.get p)
        (activityBit (peakOf (s.captured p)) ((s.checked inp).ports.get p).threshold) = true) :
      s.Raises inp (.partyActive p ((s.checked inp).ports.get p).state)
  | gained (m : Fin 4) (a : Term) (ha : a ∈ (s.mixes.get m).terms)
      (hbefore : a.status = some .waiting ∨ a.status = some .unheard)
      (hafter : ((s.afterStrobe inp).decided (s.mixTag m) a).status = some .held) :
      s.Raises inp (.claimGained (s.mixTag m) a.tag)
  | surrendered (m : Fin 4) (a : Term) (entered : ClaimStatus) (ha : a ∈ (s.mixes.get m).terms)
      (hbefore : a.status = some .held)
      (hafter : ((s.afterStrobe inp).decided (s.mixTag m) a).status = some entered) (hnot : entered ≠ .held) :
      s.Raises inp (.claimLost (s.mixTag m) a.tag entered)
  | miss (p : Fin 8) (mix : Tag) (cause : MissCause) (hbuilds : (s.statused inp).builds p = true)
      (hclear : (s.ports.get p).missReported = false)
      (hfirst : ((s.statused inp).cancelMisses p).head? = some (mix, cause)) : s.Raises inp (.cancelMiss p mix cause)
  | tested (test : LaneTest) (hst : s.station = .withdrawn (some test)) (hless : test.judged < test.sent)
      (hlast : 4 ≤ (test.judge (testVerdict s.sent (s.lanes.get s.stationNumber).frame)).judged) :
      s.Raises inp (.testDone s.stationNumber
        (test.judge (testVerdict s.sent (s.lanes.get s.stationNumber).frame)).result
        (test.judge (testVerdict s.sent (s.lanes.get s.stationNumber).frame)).matched)

/-- An echo mismatch is judged in no state of the listen window. -/
theorem State.echoed_starting (s : State) (inp : StrobeInput) :
    (s.echoed inp).station.clashes = s.station.clashes ∧ (s.echoed inp).station.starts = s.station.starts := by
  rw [State.echoed_station]
  rcases Bool.eq_false_or_eq_true s.conflicts with hc | hc
  · rcases State.judges_of_conflicts hc with hst | ⟨_, hst⟩ | ⟨_, _, hst, _⟩ <;> rw [hc, hst] <;> exact ⟨rfl, rfl⟩
  · rw [hc]
    exact ⟨rfl, rfl⟩

/-- CLOSING is over at a strobe that judges no echo (R16, R147). -/
theorem State.listened_over_iff (s : State) (inp : StrobeInput) (cause : ClosingCause) (finals : Nat) :
    ((s.listened inp).station = .closing cause finals ∧ 8 ≤ finals) ↔ s.station = .closing cause finals
      ∧ 8 ≤ finals := by
  rw [State.listened_station, State.echoed_station]
  refine and_congr_left fun hover => ?_
  rcases Bool.eq_false_or_eq_true s.conflicts with hc | hc
  · rw [hc]
    refine iff_of_false nofun fun hst => ?_
    rcases State.judges_of_conflicts hc with h | ⟨_, h⟩ | ⟨_, few, h, hfew⟩ <;> rw [hst] at h <;> cases h
    omega
  · rw [hc]
    cases hst : s.station with
    | starting quiet heard =>
      cases quiet with
      | none => exact iff_of_false nofun nofun
      | some quiet =>
        cases heard with
        | true => exact iff_of_false nofun nofun
        | false =>
          simp only [Bool.false_eq_true, if_false, Station.listened]
          split_ifs <;> exact iff_of_false nofun nofun
    | _ => exact Iff.rfl

theorem State.mem_closedPass {s : State} {inp : StrobeInput} {e : Event} :
    e ∈ (closedPass (s.listened inp)).raised
      ↔ ∃ cause finals, e = .withdrawDone cause finals ∧ s.station = .closing cause finals ∧ 8 ≤ finals := by
  simp only [← s.listened_over_iff inp]
  rw [closedPass_raised]
  cases (s.listened inp).station with
  | closing cause finals =>
    by_cases hover : finals < 8
    · simp [hover, Nat.not_le.mpr hover]
    · simp [hover, Nat.not_lt.mp hover]
  | _ => simp

theorem State.mem_withdrawalPass {s : State} {inp : StrobeInput} {e : Event} :
    e ∈ (withdrawalPass (s.claimed inp)).raised ↔ ∃ timer, e = .withdrawDenied (s.claimed inp).heldPorts
      ∧ (s.closed inp).station = .withdrawing timer ∧ (s.claimed inp).heldPorts ≠ 0 ∧ 30000 ≤ timer + 1 := by
  rw [withdrawalPass_raised, State.claimed_station]
  cases (s.closed inp).station with
  | withdrawing timer =>
    dsimp only
    split
    next h =>
      exact ⟨fun he => ⟨timer, List.mem_singleton.mp he, rfl, h⟩, fun ⟨_, he, _⟩ => List.mem_singleton.mpr he⟩
    next h =>
      refine iff_of_false List.not_mem_nil ?_
      rintro ⟨_, _, ⟨⟩, hlimit⟩
      exact h hlimit
  | _ => simp

theorem State.mem_testPass {s : State} {inp : StrobeInput} {e : Event} :
    e ∈ (testPass (s.composed inp)).raised ↔ ∃ test, s.station = .withdrawn (some test)
      ∧ test.judged < test.sent
      ∧ 4 ≤ (test.judge (testVerdict s.sent (s.lanes.get s.stationNumber).frame)).judged
      ∧ e = .testDone s.stationNumber (test.judge (testVerdict s.sent (s.lanes.get s.stationNumber).frame)).result
          (test.judge (testVerdict s.sent (s.lanes.get s.stationNumber).frame)).matched := by
  rw [testPass_raised]
  by_cases htest : ∃ test, s.station = .withdrawn (some test)
  · obtain ⟨test, hst⟩ := htest
    obtain ⟨hcomposed, hverdict⟩ := State.composed_test inp hst
    rw [hcomposed]
    dsimp only
    rw [hverdict, State.composed_stationNumber, hst]
    split_ifs <;> simp [*]
  · have hcomposed := State.composed_station_ne_test inp (not_exists.mp htest)
    split
    next test hst => exact absurd hst (hcomposed test)
    next => simpa using fun test hst => absurd ⟨test, hst⟩ htest

theorem State.raises_of_fault {s : State} {inp : StrobeInput} {g : Group} {e : Event}
    (he : e ∈ (faultPass g (faultInput inp g) (s.sampledIn inp g)).raised) : s.Raises inp e := by
  rw [faultPass_raised, State.sampledIn_level, State.sampledIn_outOfService] at he
  cases hsample : faultInput inp g <;> cases hlevel : s.level g <;> simp [hsample, hlevel] at he
  · rw [he]
    exact .clear g hlevel hsample
  · rw [he]
    exact .fault g hlevel hsample

theorem State.raises_of_mem {s : State} {inp : StrobeInput} (htakes : s.takesStrobes) {w : Work} {e : Event}
    (hw : w ∈ s.strobeWorks inp) (he : e ∈ w.raised) : s.Raises inp e := by
  simp only [State.strobeWorks, List.mem_cons, List.not_mem_nil, or_false] at hw
  rcases hw with rfl | rfl | rfl | rfl | rfl | rfl | rfl | rfl | rfl | rfl | rfl | rfl | rfl
  · rw [monitorPass_raised htakes.2, List.mem_ite_nil_right, List.mem_singleton] at he
    obtain ⟨hreturns, rfl⟩ := he
    exact .back hreturns
  · exact State.raises_of_fault he
  · exact State.raises_of_fault he
  · rw [State.echoPass_raised, List.mem_ite_nil_right, List.mem_singleton] at he
    obtain ⟨hconflicts, rfl⟩ := he
    exact .echo hconflicts
  · obtain ⟨hclashes, hstarts⟩ := s.echoed_starting inp
    rw [listenPass_raised, hclashes, hstarts, State.echoed_stationNumber, State.echoed_sequence] at he
    split_ifs at he with hclash hstart
    · rw [List.mem_singleton.mp he]
      exact .clash hclash
    · rw [List.mem_singleton.mp he]
      exact .start hstart
    · cases he
  · obtain ⟨cause, finals, rfl, hst, hover⟩ := State.mem_closedPass.mp he
    exact .done cause finals hst hover
  · obtain ⟨l, hlane⟩ := State.mem_lanePass.mp he
    rcases (mem_laneEvent_iff l _ _ _).mp hlane with ⟨third, rfl, hbefore, hafter⟩ |
      ⟨previous, rfl, hbefore, hafter, hmark⟩ | ⟨previous, rfl, hbefore, hmark, hmissing⟩
    · exact .present l third hbefore hafter
    · exact .lost l previous hbefore hafter hmark
    · exact .withdrawn l previous hbefore hmark hmissing
  · obtain ⟨p, mix, rfl, hactive, hholder, habsent⟩ := State.mem_claimPass.mp he
    exact .dropped p mix hactive hholder habsent
  · obtain ⟨timer, rfl, hst, hheld, hlimit⟩ := State.mem_withdrawalPass.mp he
    exact .denied timer hst hheld hlimit
  · obtain ⟨p, rfl, hserved, hgives⟩ := State.mem_measurePass.mp he
    exact .active p hserved hgives
  · obtain ⟨m, a, ha, hstatus⟩ := (State.mem_statusPass htakes).mp he
    rcases (mem_statusEvent_iff _ _ _ _ _).mp hstatus with ⟨rfl, hbefore, hafter⟩ |
      ⟨entered, rfl, hbefore, hafter, hnot⟩
    · exact .gained m a ha hbefore hafter
    · exact .surrendered m a entered ha hbefore hafter hnot
  · obtain ⟨p, mix, cause, rfl, hbuilds, hclear, hfirst⟩ := State.mem_returnPass.mp he
    rw [State.statused_ports, (s.measured_counts inp p).2.2.2] at hclear
    exact .miss p mix cause hbuilds hclear hfirst
  · obtain ⟨test, hst, hless, hlast, rfl⟩ := State.mem_testPass.mp he
    exact .tested test hst hless hlast

theorem State.mem_of_raises {s : State} {inp : StrobeInput} (htakes : s.takesStrobes) {e : Event} (h : s.Raises inp e) :
    ∃ w ∈ s.strobeWorks inp, e ∈ w.raised := by
  have hfault : ∀ g, faultPass g (faultInput inp g) (s.sampledIn inp g) ∈ s.strobeWorks inp := fun g => by
    cases g <;> simp [State.strobeWorks]
  cases h with
  | back h => exact ⟨monitorPass inp.instant s, by simp [State.strobeWorks], by simp [monitorPass_raised htakes.2, h]⟩
  | fault g hlevel hsample =>
    exact ⟨_, hfault g, by simp [faultPass_raised, State.sampledIn_level, State.sampledIn_outOfService, hlevel,
      hsample]⟩
  | clear g hlevel hsample =>
    exact ⟨_, hfault g, by simp [faultPass_raised, State.sampledIn_level, State.sampledIn_outOfService, hlevel,
      hsample]⟩
  | echo h => exact ⟨echoPass s.verdict (s.faulted inp), by simp [State.strobeWorks],
      by simp [State.echoPass_raised, h]⟩
  | clash h =>
    refine ⟨listenPass (s.echoed inp), by simp [State.strobeWorks], ?_⟩
    simp [listenPass_raised, (s.echoed_starting inp).1, h]
  | start h =>
    refine ⟨listenPass (s.echoed inp), by simp [State.strobeWorks], ?_⟩
    obtain ⟨hclashes, hstarts⟩ := s.echoed_starting inp
    have hclash : s.station.clashes = false := by
      unfold Station.starts at h
      unfold Station.clashes
      split at h
      next hst => rw [hst]
      next => cases h
    simp [listenPass_raised, hclashes, hstarts, hclash, h]
  | done cause finals hst hover =>
    exact ⟨closedPass (s.listened inp), by simp [State.strobeWorks], State.mem_closedPass.mpr
      ⟨cause, finals, rfl, hst, hover⟩⟩
  | present l third hbefore hafter =>
    exact ⟨lanePass (s.blockFrames s.verdict) (s.closed inp), by simp [State.strobeWorks],
      State.mem_lanePass.mpr ⟨l, (mem_laneEvent_iff ..).mpr (.inl ⟨third, rfl, hbefore, hafter⟩)⟩⟩
  | lost l previous hbefore hafter hmark =>
    exact ⟨lanePass (s.blockFrames s.verdict) (s.closed inp), by simp [State.strobeWorks],
      State.mem_lanePass.mpr ⟨l, (mem_laneEvent_iff ..).mpr (.inr (.inl ⟨previous, rfl, hbefore, hafter, hmark⟩))⟩⟩
  | withdrawn l previous hbefore hmark hmissing =>
    exact ⟨lanePass (s.blockFrames s.verdict) (s.closed inp), by simp [State.strobeWorks],
      State.mem_lanePass.mpr ⟨l, (mem_laneEvent_iff ..).mpr (.inr (.inr ⟨previous, rfl, hbefore, hmark, hmissing⟩))⟩⟩
  | dropped p mix hactive hholder habsent =>
    exact ⟨claimPass (s.blockFrames s.verdict) (s.absentLanes (s.blockFrames s.verdict)) (s.filed inp),
      by simp [State.strobeWorks], State.mem_claimPass.mpr ⟨p, mix, rfl, hactive, hholder, habsent⟩⟩
  | denied timer hst hheld hlimit =>
    exact ⟨withdrawalPass (s.claimed inp), by simp [State.strobeWorks],
      State.mem_withdrawalPass.mpr ⟨timer, rfl, hst, hheld, hlimit⟩⟩
  | active p hserved hgives =>
    exact ⟨measurePass (s.checked inp), by simp [State.strobeWorks], State.mem_measurePass.mpr
      ⟨p, rfl, hserved, hgives⟩⟩
  | gained m a ha hbefore hafter =>
    exact ⟨statusPass (s.measured inp), by simp [State.strobeWorks],
      (State.mem_statusPass htakes).mpr ⟨m, a, ha, (mem_statusEvent_iff ..).mpr (.inl ⟨rfl, hbefore, hafter⟩)⟩⟩
  | surrendered m a entered ha hbefore hafter hnot =>
    exact ⟨statusPass (s.measured inp), by simp [State.strobeWorks], (State.mem_statusPass htakes).mpr
      ⟨m, a, ha, (mem_statusEvent_iff ..).mpr (.inr ⟨entered, rfl, hbefore, hafter, hnot⟩)⟩⟩
  | miss p mix cause hbuilds hclear hfirst =>
    refine ⟨returnPass (s.statused inp), by simp [State.strobeWorks],
      State.mem_returnPass.mpr ⟨p, mix, cause, rfl, hbuilds, ?_, hfirst⟩⟩
    rw [State.statused_ports, (s.measured_counts inp p).2.2.2, hclear]
  | tested test hst hless hlast =>
    exact ⟨testPass (s.composed inp), by simp [State.strobeWorks], State.mem_testPass.mpr
      ⟨test, hst, hless, hlast, rfl⟩⟩

/-- The events of a taken strobe are those that its passes raise. -/
theorem State.mem_strobeEvents_iff {s : State} {inp : StrobeInput} (htakes : s.takesStrobes) {e : Event} :
    e ∈ (s.strobeChains inp).flatten.flatten ↔ s.Raises inp e := by
  rw [State.strobeChains_flatten, List.mem_flatten]
  constructor
  · rintro ⟨_, hpass, he⟩
    obtain ⟨w, hw, rfl⟩ := List.mem_map.mp hpass
    exact State.raises_of_mem htakes hw he
  · intro h
    obtain ⟨w, hw, he⟩ := State.mem_of_raises htakes h
    exact ⟨_, List.mem_map.mpr ⟨w, hw, rfl⟩, he⟩

end Sys2Proof.Machine
end

section
/-! The events of a taken strobe are those its changes call for (R168 to R170), from the state before and the state
after. -/

namespace Sys2Proof.Machine

/-! ## The station state -/

/-- Where the listen window and the end of CLOSING lead. -/
theorem Station.settled_name (st : Station) :
    (st.listened.closedOut.name = .conflict ↔ st.clashes = true ∨ st = .conflict)
      ∧ (st.listened.closedOut.name = .running ↔ st.starts = true ∨ st = .running)
      ∧ (st.listened.closedOut.name = .withdrawn ↔
        (∃ test, st = .withdrawn test) ∨ ∃ cause finals, st = .closing cause finals ∧ 8 ≤ finals) := by
  cases st with
  | starting quiet heard =>
    cases quiet with
    | none => simp [Station.listened, Station.closedOut, Station.name, Station.clashes, Station.starts]
    | some quiet =>
      cases heard with
      | true => simp [Station.listened, Station.closedOut, Station.name, Station.clashes, Station.starts]
      | false =>
        by_cases h : 15 ≤ quiet <;>
          simp [Station.listened, Station.closedOut, Station.name, Station.clashes, Station.starts, h]
  | closing cause finals =>
    by_cases h : finals < 8 <;>
      simp [Station.listened, Station.closedOut, Station.name, Station.clashes, Station.starts, h]
    omega
  | _ => simp [Station.listened, Station.closedOut, Station.name, Station.clashes, Station.starts]

theorem State.afterStrobe_name_of_judged {s : State} {inp : StrobeInput} (htakes : s.takesStrobes) {st : Station}
    (h : (s.judged inp).station = st) : (s.afterStrobe inp).stationName = st.name := by
  rw [State.stationName, State.afterStrobe_station_of_judged htakes h, Station.afterSending_name]

theorem State.afterStrobe_name_of_plain {s : State} {inp : StrobeInput} (htakes : s.takesStrobes)
    (hc : s.conflicts = false) (hwithdrawing : ∀ timer, s.station ≠ .withdrawing timer)
    (htest : ∀ test, s.station ≠ .withdrawn (some test)) :
    (s.afterStrobe inp).stationName = s.station.listened.closedOut.name :=
  State.afterStrobe_name_of_judged htakes (State.judged_station_of_plain inp hc hwithdrawing htest)

theorem State.afterStrobe_name_of_withdrawing {s : State} {inp : StrobeInput} (htakes : s.takesStrobes)
    (hc : s.conflicts = false) {timer : Nat} (hst : s.station = .withdrawing timer) :
    (s.afterStrobe inp).stationName =
      if (s.claimed inp).heldPorts = 0 then .closing else if timer + 1 < 30000 then .withdrawing else .running := by
  rw [State.afterStrobe_name_of_judged htakes (State.judged_station_of_withdrawing inp hc hst)]
  split_ifs <;> rfl

theorem State.afterStrobe_name_of_test {s : State} {inp : StrobeInput} (htakes : s.takesStrobes) {test : LaneTest}
    (hst : s.station = .withdrawn (some test)) : (s.afterStrobe inp).stationName = .withdrawn := by
  rw [State.afterStrobe_name_of_judged htakes (State.judged_station_of_test inp hst rfl)]
  split_ifs <;> rfl

/-- The station enters CONFLICT by its echo or by its listen window alone (R16, R19, R20). -/
theorem State.enters_conflict_iff {s : State} {inp : StrobeInput} (htakes : s.takesStrobes) :
    s.stationName ≠ .conflict ∧ (s.afterStrobe inp).stationName = .conflict
      ↔ s.conflicts = true ∨ s.station.clashes = true := by
  rcases Bool.eq_false_or_eq_true s.conflicts with hc | hc
  · refine iff_of_true ⟨?_, State.afterStrobe_name_of_judged htakes (State.judged_station_of_conflicts inp hc)⟩
      (.inl hc)
    rcases State.judges_of_conflicts hc with hst | ⟨_, hst⟩ |
      ⟨_, _, hst, _⟩ <;> simp [State.stationName, Station.name, hst]
  simp only [hc, Bool.false_eq_true, false_or]
  by_cases hwithdrawing : ∃ timer, s.station = .withdrawing timer
  · obtain ⟨timer, hst⟩ := hwithdrawing
    rw [State.afterStrobe_name_of_withdrawing htakes hc hst, hst]
    refine iff_of_false (fun h => ?_) nofun
    have := h.2
    split_ifs at this
  by_cases htest : ∃ test, s.station = .withdrawn (some test)
  · obtain ⟨test, hst⟩ := htest
    rw [State.afterStrobe_name_of_test htakes hst, hst]
    exact iff_of_false (fun h => nomatch h.2) nofun
  rw [State.afterStrobe_name_of_plain htakes hc (not_exists.mp hwithdrawing) (not_exists.mp htest),
    s.station.settled_name.1]
  cases hst : s.station <;> simp [State.stationName, Station.name, hst, Station.clashes]

/-- The cause of the CONFLICT is LISTEN in STARTING and ECHO elsewhere. -/
theorem State.clashes_iff {s : State} (h : s.conflicts = true ∨ s.station.clashes = true) :
    s.station.clashes = true ↔ s.stationName = .starting := by
  rcases h with hc | hclash
  · refine iff_of_false ?_ ?_ <;> rcases State.judges_of_conflicts hc with hst | ⟨_, hst⟩ | ⟨_, _, hst, _⟩ <;>
      simp [State.stationName, Station.name, Station.clashes, hst]
  · refine iff_of_true hclash ?_
    unfold Station.clashes at hclash
    split at hclash
    next hst => rw [State.stationName, hst]; rfl
    next => cases hclash

theorem State.raises_laneConflict_iff {s : State} {inp : StrobeInput} (htakes : s.takesStrobes) {l : Fin 16}
    {cause : ConflictCause} :
    s.Raises inp (.laneConflict l cause) ↔ strobeRaises s (s.afterStrobe inp) (.laneConflict l cause) := by
  have henters := State.enters_conflict_iff (inp := inp) htakes
  constructor
  · intro h
    cases h with
    | echo h =>
      have hnot : s.stationName ≠ .starting := by
        rcases State.judges_of_conflicts h with hst | ⟨_, hst⟩ | ⟨_, _, hst, _⟩ <;>
          simp [State.stationName, Station.name, hst]
      obtain ⟨hbefore, hafter⟩ := henters.mpr (.inl h)
      exact ⟨rfl, hbefore, hafter, (if_neg hnot).symm⟩
    | clash h =>
      obtain ⟨hbefore, hafter⟩ := henters.mpr (.inr h)
      exact ⟨rfl, hbefore, hafter, (if_pos ((State.clashes_iff (.inr h)).mp h)).symm⟩
  · rintro ⟨rfl, hbefore, hafter, rfl⟩
    have hone := henters.mp ⟨hbefore, hafter⟩
    split
    next hstarting => exact .clash ((State.clashes_iff hone).mpr hstarting)
    next hother => exact .echo (hone.resolve_right fun h => hother ((State.clashes_iff hone).mp h))

theorem State.station_of_starting {s : State} (h : s.stationName = .starting) :
    s.conflicts = false ∧ (∀ timer, s.station ≠ .withdrawing timer) ∧ ∀ test, s.station ≠ .withdrawn (some test) := by
  obtain ⟨quiet, heard, hst⟩ : ∃ quiet heard, s.station = .starting quiet heard := by
    cases hst : s.station with
    | starting quiet heard => exact ⟨quiet, heard, rfl⟩
    | _ => simp [State.stationName, Station.name, hst] at h
  rw [hst]
  exact ⟨State.conflicts_eq_false_of_not_judges (by simp [State.judges, hst]), nofun, nofun⟩

theorem State.starts_iff {s : State} {inp : StrobeInput} (htakes : s.takesStrobes) :
    s.station.starts = true ↔ s.stationName = .starting ∧ (s.afterStrobe inp).stationName = .running := by
  constructor
  · intro h
    have hstarting : s.stationName = .starting := by
      unfold Station.starts at h
      split at h
      next hst => rw [State.stationName, hst]; rfl
      next => cases h
    obtain ⟨hc, hwithdrawing, htest⟩ := State.station_of_starting hstarting
    refine ⟨hstarting, ?_⟩
    rw [State.afterStrobe_name_of_plain htakes hc hwithdrawing htest]
    exact s.station.settled_name.2.1.mpr (.inl h)
  · rintro ⟨hstarting, hrunning⟩
    obtain ⟨hc, hwithdrawing, htest⟩ := State.station_of_starting hstarting
    rw [State.afterStrobe_name_of_plain htakes hc hwithdrawing htest] at hrunning
    refine (s.station.settled_name.2.1.mp hrunning).resolve_right fun hst => ?_
    rw [State.stationName, hst] at hstarting
    cases hstarting

/-- The ports with a holder after a strobe at which the station does not close. -/
theorem State.afterStrobe_heldPorts {s : State} {inp : StrobeInput} (htakes : s.takesStrobes)
    (hopen : (s.claimed inp).closesNow = false) : (s.afterStrobe inp).heldPorts = (s.claimed inp).heldPorts := by
  simp only [State.heldPorts, (State.afterStrobe_claims htakes _).1, State.checked_port_of_open hopen]

theorem State.raises_withdrawDenied_iff {s : State} {inp : StrobeInput} (htakes : s.takesStrobes) {held : Nat} :
    s.Raises inp (.withdrawDenied held) ↔ strobeRaises s (s.afterStrobe inp) (.withdrawDenied held) := by
  constructor
  · intro h
    cases h with
    | denied timer hclosed hheld hlimit =>
      obtain ⟨hc, hst⟩ := State.station_of_closed_withdrawing hclosed
      refine ⟨by rw [State.stationName, hst]; rfl, ?_, (State.afterStrobe_heldPorts htakes ?_).symm⟩
      · rw [State.afterStrobe_name_of_withdrawing htakes hc hst, if_neg hheld, if_neg (by omega)]
      · simp [State.closesNow, hheld]
  · rintro ⟨hbefore, hafter, rfl⟩
    obtain ⟨timer, hst⟩ : ∃ timer, s.station = .withdrawing timer := by
      cases hst : s.station with
      | withdrawing timer => exact ⟨timer, rfl⟩
      | _ => simp [State.stationName, Station.name, hst] at hbefore
    have hc : s.conflicts = false := by
      rcases Bool.eq_false_or_eq_true s.conflicts with hc | hc
      · rw [State.afterStrobe_name_of_judged htakes (State.judged_station_of_conflicts inp hc)] at hafter
        cases hafter
      · exact hc
    rw [State.afterStrobe_name_of_withdrawing htakes hc hst] at hafter
    split_ifs at hafter with hheld hlimit
    rw [State.afterStrobe_heldPorts htakes (by simp [State.closesNow, hheld])]
    refine .denied timer ?_ hheld (by omega)
    rw [State.closed_station_of_few hc, hst]
    rfl

theorem State.raises_withdrawDone_iff {s : State} {inp : StrobeInput} (htakes : s.takesStrobes) {cause : ClosingCause}
    {finals : Nat} :
    s.Raises inp (.withdrawDone cause finals) ↔ strobeRaises s (s.afterStrobe inp) (.withdrawDone cause finals) := by
  have hplain : ∀ hc : s.conflicts = false, s.station = .closing cause finals →
      (s.afterStrobe inp).stationName = s.station.listened.closedOut.name := fun hc hst =>
    State.afterStrobe_name_of_plain htakes hc (by rw [hst]; nofun) (by rw [hst]; nofun)
  constructor
  · intro h
    cases h with
    | done cause finals hst hover =>
      have hj : ¬s.judges := by simp [State.judges, hst, Nat.not_lt.mpr hover]
      refine ⟨hst, ?_⟩
      rw [hplain (State.conflicts_eq_false_of_not_judges hj) hst]
      exact s.station.settled_name.2.2.mpr (.inr ⟨cause, finals, hst, hover⟩)
  · rintro ⟨hst, hafter⟩
    rcases Bool.eq_false_or_eq_true s.conflicts with hc | hc
    · rw [State.afterStrobe_name_of_judged htakes (State.judged_station_of_conflicts inp hc)] at hafter
      cases hafter
    · rw [hplain hc hst] at hafter
      rcases s.station.settled_name.2.2.mp hafter with ⟨test, h⟩ | ⟨cause', finals', h, hover⟩
      · rw [hst] at h
        cases h
      · rw [hst] at h
        cases h
        exact .done cause finals hst hover

theorem State.raises_testDone_iff {s : State} {inp : StrobeInput} (htakes : s.takesStrobes) {l : Fin 16}
    {result : TestResult} {matched : Nat} :
    s.Raises inp (.testDone l result matched) ↔ strobeRaises s (s.afterStrobe inp) (.testDone l result matched) := by
  have hstation : ∀ test, s.station = .withdrawn (some test) → ((s.afterStrobe inp).station = .withdrawn none ↔
      test.judged < test.sent ∧ 4 ≤ (test.judge (testVerdict s.sent (s.lanes.get s.stationNumber).frame)).judged) := by
    intro test hst
    rw [State.afterStrobe_station_of_judged htakes (State.judged_station_of_test inp hst rfl)]
    split_ifs with hless hlast
    · exact iff_of_true rfl ⟨hless, hlast⟩
    · exact iff_of_false nofun fun h => hlast h.2
    · exact iff_of_false nofun fun h => hless h.1
  constructor
  · intro h
    cases h with
    | tested test hst hless hlast => exact ⟨rfl, (hstation test hst).mpr ⟨hless, hlast⟩, test, hst, rfl, rfl⟩
  · rintro ⟨rfl, hafter, test, hst, rfl, rfl⟩
    obtain ⟨hless, hlast⟩ := (hstation test hst).mp hafter
    exact .tested test hst hless hlast

end Sys2Proof.Machine
end

section
/-! Settles O34: the events of a strobe are exactly those that its changes raise, each once, the dropped claims in port
order. -/

namespace Sys2Proof.Machine

/-! ## Lanes, levels and the monitor -/

theorem State.raises_lane_iff {s : State} {inp : StrobeInput} (htakes : s.takesStrobes) (l : Fin 16) (q : Seq) :
    (s.Raises inp (.lanePresent l q) ↔ strobeRaises s (s.afterStrobe inp) (.lanePresent l q))
      ∧ (s.Raises inp (.laneLost l q) ↔ strobeRaises s (s.afterStrobe inp) (.laneLost l q))
      ∧ (s.Raises inp (.laneWithdrawn l q) ↔ strobeRaises s (s.afterStrobe inp) (.laneWithdrawn l q)) := by
  have hreceive := State.afterStrobe_receive (inp := inp) htakes l
  have hmissing := s.blockFrame_eq_missing_iff s.verdict l
  simp only [strobeRaises, hreceive]
  refine ⟨⟨fun h => ?_, fun ⟨hbefore, hafter⟩ => .present l q hbefore hafter⟩,
    ⟨fun h => ?_, fun ⟨hbefore, hafter, hmark⟩ => .lost l q hbefore hafter (hmark.imp id (mt hmissing.mp))⟩,
    ⟨fun h => ?_, fun ⟨hbefore, hmark, hnone⟩ => .withdrawn l q hbefore hmark (hmissing.mpr hnone)⟩⟩
  · cases h with
    | present _ _ hbefore hafter => exact ⟨hbefore, hafter⟩
  · cases h with
    | lost _ _ hbefore hafter hmark => exact ⟨hbefore, hafter, hmark.imp id (mt hmissing.mpr)⟩
  · cases h with
    | withdrawn _ _ hbefore hmark hnone => exact ⟨hbefore, hmark, hmissing.mp hnone⟩

theorem State.raises_group_iff {s : State} {inp : StrobeInput} (htakes : s.takesStrobes) (g : Group) (n : Nat) :
    (s.Raises inp (.groupFault g n) ↔ strobeRaises s (s.afterStrobe inp) (.groupFault g n))
      ∧ (s.Raises inp (.groupClear g n) ↔ strobeRaises s (s.afterStrobe inp) (.groupClear g n)) := by
  simp only [strobeRaises, State.afterStrobe_level htakes, ← State.four_sub_outOfService]
  refine ⟨⟨fun h => ?_, fun ⟨hlevel, hsample, hn⟩ => hn ▸ .fault g hlevel hsample⟩,
    ⟨fun h => ?_, fun ⟨hlevel, hsample, hn⟩ => hn ▸ .clear g hlevel hsample⟩⟩
  · cases h with
    | fault _ hlevel hsample => exact ⟨hlevel, hsample, rfl⟩
  · cases h with
    | clear _ hlevel hsample => exact ⟨hlevel, hsample, rfl⟩

theorem Monitor.returns_iff (m : Monitor) (instant : Nat) :
    m.returns instant = true ↔ m.condition = .lost ∧ (m.strobe instant).condition = .timed := by
  simp [Monitor.returns]

theorem State.raises_strobeBack_iff {s : State} {inp : StrobeInput} (htakes : s.takesStrobes) (name : StationName) :
    s.Raises inp (.strobeBack name) ↔ strobeRaises s (s.afterStrobe inp) (.strobeBack name) := by
  have hmonitor := State.afterStrobe_monitor_eq (inp := inp) htakes.1
  simp only [strobeRaises, hmonitor]
  constructor
  · intro h
    cases h with
    | back h =>
      obtain ⟨hlost, htimed⟩ := (Monitor.returns_iff ..).mp h
      exact ⟨hlost, htimed, rfl⟩
  · rintro ⟨hlost, htimed, rfl⟩
    exact .back ((Monitor.returns_iff ..).mpr ⟨hlost, htimed⟩)

/-! ## Claim statuses -/

theorem State.raises_status_iff {s : State} {inp : StrobeInput} (htakes : s.takesStrobes) (mix party : Tag) :
    (s.Raises inp (.claimGained mix party) ↔ strobeRaises s (s.afterStrobe inp) (.claimGained mix party))
      ∧ ∀ entered, s.Raises inp (.claimLost mix party entered)
        ↔ strobeRaises s (s.afterStrobe inp) (.claimLost mix party entered) := by
  have hterm : ∀ (m : Fin 4) (i : Nat) (a b : Term), (s.mixes.get m).terms[i]? = some a →
      ((s.afterStrobe inp).mixes.get m).terms[i]? = some b → b = (s.afterStrobe inp).decided (s.mixTag m) a := by
    intro m i a b ha hb
    rw [State.afterStrobe_terms htakes, List.getElem?_map, ha] at hb
    exact (Option.some.inj hb).symm
  have hplace : ∀ (m : Fin 4) (a : Term), a ∈ (s.mixes.get m).terms → ∃ i : Nat, (s.mixes.get m).terms[i]? = some a
      ∧ ((s.afterStrobe inp).mixes.get m).terms[i]? = some ((s.afterStrobe inp).decided (s.mixTag m) a) := by
    intro m a ha
    obtain ⟨i, hi⟩ := List.getElem?_of_mem ha
    exact ⟨i, hi, by rw [State.afterStrobe_terms htakes, List.getElem?_map, hi, Option.map_some]⟩
  refine ⟨⟨fun h => ?_, ?_⟩, fun entered => ⟨fun h => ?_, ?_⟩⟩
  · cases h with
    | gained m a ha hbefore hafter =>
      obtain ⟨i, hi, hj⟩ := hplace m a ha
      exact ⟨m, i, a, _, rfl, rfl, hi, hj, hbefore, hafter⟩
  · rintro ⟨m, i, a, b, rfl, rfl, ha, hb, hbefore, hafter⟩
    exact .gained m a (List.mem_of_getElem? ha) hbefore (hterm m i a b ha hb ▸ hafter)
  · cases h with
    | surrendered m a _ ha hbefore hafter hnot =>
      obtain ⟨i, hi, hj⟩ := hplace m a ha
      exact ⟨m, i, a, _, rfl, rfl, hi, hj, hbefore, hafter, hnot⟩
  · rintro ⟨m, i, a, b, rfl, rfl, ha, hb, hbefore, hafter, hnot⟩
    exact .surrendered m a entered (List.mem_of_getElem? ha) hbefore (hterm m i a b ha hb ▸ hafter) hnot

/-! ## Ports -/

/-- The claim update runs at a strobe at which the station is RUNNING or WITHDRAWING, or enters RUNNING, and enters no
CONFLICT (R90). -/
theorem State.closed_active_iff {s : State} {inp : StrobeInput} (htakes : s.takesStrobes) :
    (s.closed inp).active = true ↔
      (s.active = true ∨ s.stationName = .starting ∧ (s.afterStrobe inp).stationName = .running)
      ∧ (s.afterStrobe inp).stationName ≠ .conflict := by
  rcases Bool.eq_false_or_eq_true s.conflicts with hc | hc
  · refine iff_of_false ?_ fun h =>
      h.2 (State.afterStrobe_name_of_judged htakes (State.judged_station_of_conflicts inp hc))
    simp [State.active, State.closed_station_of_conflicts hc]
  by_cases hactive : s.active = true
  · refine iff_of_true (State.closed_active inp hc (.inl hactive)).1 ⟨.inl hactive, ?_⟩
    rcases s.active_iff.mp hactive with hst | ⟨timer, hst⟩
    · rw [State.afterStrobe_name_of_plain htakes hc (by rw [hst]; nofun) (by rw [hst]; nofun), hst]
      nofun
    · rw [State.afterStrobe_name_of_withdrawing htakes hc hst]
      split_ifs <;> nofun
  have hstarts : (s.closed inp).active = true ↔ s.station.starts = true := by
    rw [State.active_iff]
    constructor
    · rintro (hrunning | ⟨timer, hst⟩)
      · rw [State.closed_station_of_few hc] at hrunning
        refine (s.station.settled_name.2.1.mp (by rw [hrunning]; rfl)).resolve_right fun hst => ?_
        exact hactive (s.active_iff.mpr (.inl hst))
      · exact absurd (s.active_iff.mpr (.inr ⟨timer, (State.station_of_closed_withdrawing hst).2⟩)) hactive
    · intro h
      unfold Station.starts at h
      split at h
      next quiet hst =>
        refine .inl ?_
        rw [State.closed_station_of_few hc, hst, Station.listened, if_pos (of_decide_eq_true h)]
        rfl
      next => cases h
  rw [hstarts, State.starts_iff (inp := inp) htakes]
  exact ⟨fun h => ⟨.inr h, by rw [h.2]; nofun⟩, fun h => h.1.resolve_left hactive⟩

/-- The ports that the claim update finds are those before the strobe, but for the group faults. -/
theorem State.few_of_closed_active {s : State} {inp : StrobeInput} (htakes : s.takesStrobes)
    (h : (s.closed inp).active = true) : s.conflicts = false ∧ s.station.clashes = false := by
  obtain ⟨_, hno⟩ := (State.closed_active_iff htakes).mp h
  have hneither : ¬(s.conflicts = true ∨ s.station.clashes = true) := fun hone =>
    hno ((State.enters_conflict_iff htakes).mpr hone).2
  rw [not_or, Bool.not_eq_true, Bool.not_eq_true] at hneither
  exact hneither

/-- A port that no fault takes out is not OUT_OF_SERVICE after the strobe unless it was before (R57, R58). -/
theorem State.afterStrobe_outOfService_of_unforced {s : State} {inp : StrobeInput} (htakes : s.takesStrobes) {p : Fin 8}
    (hunforced : ¬s.forced inp p) (hin : (s.ports.get p).state ≠ .outOfService) :
    ((s.afterStrobe inp).ports.get p).state ≠ .outOfService := by
  obtain ⟨hopen, hcloses⟩ := State.afterStrobe_port_state (inp := inp) htakes p
  rw [(s.faulted_port_cases inp p).2 hunforced] at hopen hcloses
  rcases Bool.eq_false_or_eq_true (s.claimed inp).closesNow with hcn | hcn
  · rw [(hcloses hcn).1, if_neg hin]
    nofun
  · rw [(hopen hcn).1]
    exact hin

theorem goesAbsent_iff (lane : Lane) (frame : BlockFrame) :
    goesAbsent lane frame = true ↔ lane.receive ≠ .absent ∧ receiveAfter lane frame = .absent := by
  simp [goesAbsent]

theorem State.raises_claimDropped_iff {s : State} {inp : StrobeInput} (htakes : s.takesStrobes) (p : Fin 8)
    (mix : Tag) :
    s.Raises inp (.claimDropped p mix) ↔ strobeRaises s (s.afterStrobe inp) (.claimDropped p mix) := by
  have hactive_iff := State.closed_active_iff (inp := inp) htakes
  simp only [strobeRaises, State.afterStrobe_receive htakes]
  constructor
  · intro h
    cases h with
    | dropped _ _ hactive hholder habsent =>
      obtain ⟨hc, hclash⟩ := State.few_of_closed_active htakes hactive
      obtain ⟨hforced, hunforced⟩ := State.listened_port_of_few (inp := inp) hc hclash p
      have hnot : ¬s.forced inp p := by
        intro h
        rw [hforced h, Port.changeState_outOfService] at hholder
        cases hholder
      obtain ⟨hclaims, hconflict⟩ := hactive_iff.mp hactive
      obtain ⟨hbefore, hafter⟩ := (goesAbsent_iff ..).mp habsent
      exact ⟨hunforced hnot ▸ hholder, hbefore, hafter, hclaims, hconflict,
        or_iff_not_imp_left.mpr fun hin => State.afterStrobe_outOfService_of_unforced htakes hnot hin⟩
  · rintro ⟨hholder, hbefore, hafter, hclaims, hconflict, hstate⟩
    have hactive := hactive_iff.mpr ⟨hclaims, hconflict⟩
    obtain ⟨hc, hclash⟩ := State.few_of_closed_active htakes hactive
    have hnot : ¬s.forced inp p := by
      intro h
      refine hstate.elim h.2 fun hin => hin ?_
      rw [State.afterStrobe_port_of_forced htakes h, Port.changeState_outOfService]
    refine .dropped p mix hactive ?_ ((goesAbsent_iff ..).mpr ⟨hbefore, hafter⟩)
    rw [(State.listened_port_of_few hc hclash p).2 hnot, hholder]

theorem givesNotice_iff (q : Port) (activity : Bool) :
    givesNotice q activity = true ↔
      activity = true ∧ (q.state = .screen ∨ q.state = .hold) ∧ q.notice = true ∧ q.armed = true := by
  simp [givesNotice, and_assoc]

/-- A port measured at a strobe is as it was before it, but for its claims. -/
theorem State.measured_of_served {s : State} {inp : StrobeInput} (htakes : s.takesStrobes) {p : Fin 8}
    (h : ((s.afterStrobe inp).ports.get p).served = true) :
    (∃ holder queue, (s.checked inp).ports.get p = { s.ports.get p with holder := holder, queue := queue })
      ∧ ((s.afterStrobe inp).ports.get p).state = (s.ports.get p).state
      ∧ ((s.afterStrobe inp).ports.get p).activity = activityBit (peakOf (s.captured p)) (s.ports.get p).threshold := by
  obtain ⟨hunforced, hopen⟩ := State.unmoved_of_served htakes h
  have hstate : ((s.afterStrobe inp).ports.get p).state = (s.ports.get p).state := by
    rw [((State.afterStrobe_port_state htakes p).1 hopen).1, (s.faulted_port_cases inp p).2 hunforced]
  have hserved : (s.ports.get p).served = true := by
    rw [Port.served_iff, ← hstate]
    exact (Port.served_iff _).mp h
  obtain ⟨activity, hbit, _, hactivity, _⟩ := State.monitor_measures (inp := inp) htakes hunforced hopen hserved
  exact ⟨State.checked_port_of_unmoved hunforced hopen, hstate, hactivity.trans hbit⟩

theorem State.raises_partyActive_iff {s : State} {inp : StrobeInput} (htakes : s.takesStrobes) (p : Fin 8)
    (state : PortState) :
    s.Raises inp (.partyActive p state) ↔ strobeRaises s (s.afterStrobe inp) (.partyActive p state) := by
  constructor
  · intro h
    cases h with
    | active _ hserved hgives =>
      rw [← State.afterStrobe_port_served htakes] at hserved
      obtain ⟨⟨holder, queue, hchecked⟩, hstate, hactivity⟩ := State.measured_of_served htakes hserved
      rw [hchecked] at hgives ⊢
      obtain ⟨hon, hplace, hnotice, harmed⟩ := (givesNotice_iff ..).mp hgives
      exact ⟨rfl, hstate, hplace, hnotice, harmed, hactivity.trans hon⟩
  · rintro ⟨hbefore, hafter, hplace, hnotice, harmed, hactive⟩
    have hserved : ((s.afterStrobe inp).ports.get p).served = true := by
      rw [Port.served_iff, hafter]
      exact hplace.imp id .inl
    obtain ⟨⟨holder, queue, hchecked⟩, _, hactivity⟩ := State.measured_of_served htakes hserved
    have hstate : ((s.checked inp).ports.get p).state = state := by rw [hchecked, ← hbefore]
    rw [← hstate]
    rw [State.afterStrobe_port_served htakes] at hserved
    refine .active p hserved ?_
    rw [hchecked]
    exact (givesNotice_iff ..).mpr ⟨hactivity.symm.trans hactive, hbefore ▸ hplace, hnotice, harmed⟩

theorem State.raises_cancelMiss_iff {s : State} {inp : StrobeInput} (htakes : s.takesStrobes) (p : Fin 8) (mix : Tag)
    (cause : MissCause) :
    s.Raises inp (.cancelMiss p mix cause) ↔ strobeRaises s (s.afterStrobe inp) (.cancelMiss p mix cause) := by
  have hbuilds := State.builds_eq (inp := inp) htakes p
  constructor
  · intro h
    cases h with
    | miss _ _ _ hb hclear hfirst =>
      rw [hb] at hbuilds
      obtain ⟨hactive, hserved⟩ := Bool.and_eq_true_iff.mp hbuilds.symm
      rw [(State.sameReturn_statused htakes hserved).cancelMisses] at hfirst
      exact ⟨hactive, hserved, hclear, hfirst⟩
  · rintro ⟨hactive, hserved, hclear, hfirst⟩
    rw [hactive, hserved] at hbuilds
    rw [← (State.sameReturn_statused htakes hserved).cancelMisses] at hfirst
    exact .miss p mix cause hbuilds hclear hfirst

/-- The events of a strobe, kind by kind. -/
theorem State.raises_iff {s : State} {inp : StrobeInput} (htakes : s.takesStrobes) (e : Event) :
    s.Raises inp e ↔ strobeRaises s (s.afterStrobe inp) e := by
  cases e with
  | lanePresent l q => exact (State.raises_lane_iff htakes l q).1
  | laneLost l q => exact (State.raises_lane_iff htakes l q).2.1
  | laneWithdrawn l q => exact (State.raises_lane_iff htakes l q).2.2
  | laneConflict l cause => exact State.raises_laneConflict_iff htakes
  | strobeLost name => exact iff_of_false nofun id
  | strobeBack name => exact State.raises_strobeBack_iff htakes name
  | stationRunning first =>
    refine ⟨fun h => ?_, fun ⟨hstarting, hrunning, hfirst⟩ => hfirst ▸ .start
      ((State.starts_iff htakes).mpr ⟨hstarting, hrunning⟩)⟩
    cases h with
    | start h =>
      obtain ⟨hstarting, hrunning⟩ := (State.starts_iff (inp := inp) htakes).mp h
      exact ⟨hstarting, hrunning, rfl⟩
  | claimGained mix party => exact (State.raises_status_iff htakes mix party).1
  | claimLost mix party entered => exact (State.raises_status_iff htakes mix party).2 entered
  | claimDropped p mix => exact State.raises_claimDropped_iff htakes p mix
  | partyActive p state => exact State.raises_partyActive_iff htakes p state
  | cancelMiss p mix cause => exact State.raises_cancelMiss_iff htakes p mix cause
  | groupFault g n => exact (State.raises_group_iff htakes g n).1
  | groupClear g n => exact (State.raises_group_iff htakes g n).2
  | withdrawDenied held => exact State.raises_withdrawDenied_iff htakes
  | withdrawDone cause finals => exact State.raises_withdrawDone_iff htakes
  | testDone l result matched => exact State.raises_testDone_iff htakes

end Sys2Proof.Machine
end

section
/-! Settles O34: the events of a strobe are those that its changes raise, each once, the dropped claims in port
order. -/

namespace Sys2Proof.Machine

/-! ## Events ranked by the pass that raises them -/

/-- The place of the pass that raises an event. -/
def Event.pass : Event → Nat
  | .strobeBack _ => 0
  | .groupFault g _ => if g = .a then 1 else 2
  | .groupClear g _ => if g = .a then 1 else 2
  | .laneConflict _ cause => if cause = .echo then 3 else 4
  | .stationRunning _ => 4
  | .withdrawDone _ _ => 5
  | .lanePresent _ _ => 6
  | .laneLost _ _ => 6
  | .laneWithdrawn _ _ => 6
  | .claimDropped _ _ => 7
  | .withdrawDenied _ => 8
  | .partyActive _ _ => 9
  | .claimGained _ _ => 10
  | .claimLost _ _ _ => 10
  | .cancelMiss _ _ _ => 11
  | .testDone _ _ _ => 12
  | .strobeLost _ => 13

/-- In lists whose events have their list's place as rank, the events of a rank are those of the list at that place. -/
theorem filter_flatten_of_ranks {lists : List (List Event)} : ∀ {base : Nat},
    (∀ i list, lists[i]? = some list → ∀ e ∈ list, e.pass = base + i) →
    ∀ j, lists.flatten.filter (fun e => e.pass == base + j) = lists[j]?.getD [] := by
  induction lists with
  | nil => exact fun _ _ => rfl
  | cons first rest ih =>
    intro base hranks j
    have hfirst : ∀ e ∈ first, e.pass = base := fun e he => hranks 0 first rfl e he
    have hrest : ∀ i list, rest[i]? = some list → ∀ e ∈ list, e.pass = base + 1 + i := fun i list hlist e he => by
      rw [hranks (i + 1) list hlist e he]
      omega
    rw [List.flatten_cons, List.filter_append]
    cases j with
    | zero =>
      have hnone : rest.flatten.filter (fun e => e.pass == base + 0) = [] := by
        refine List.filter_eq_nil_iff.mpr fun e he => ?_
        obtain ⟨list, hlist, hmem⟩ := List.mem_flatten.mp he
        obtain ⟨i, hi⟩ := List.getElem?_of_mem hlist
        have := hrest i list hi e hmem
        simp only [beq_iff_eq]
        omega
      rw [hnone, List.append_nil, List.filter_eq_self.mpr fun e he => by simp [hfirst e he]]
      rfl
    | succ j =>
      have hnone : first.filter (fun e => e.pass == base + (j + 1)) = [] :=
        List.filter_eq_nil_iff.mpr fun e he => by simp [hfirst e he]
      have hplace : base + (j + 1) = base + 1 + j := by omega
      rw [hnone, List.nil_append, hplace, ih hrest j]
      rfl

theorem State.pass_of_mem {s : State} {inp : StrobeInput} (htakes : s.takesStrobes) {i : Nat} {w : Work}
    (hw : (s.strobeWorks inp)[i]? = some w) {e : Event} (he : e ∈ w.raised) : e.pass = i := by
  have hfault : ∀ g, e ∈ (faultPass g (faultInput inp g) (s.sampledIn inp g)).raised → e.pass = if g =
    .a then 1 else 2 := by
    intro g he
    rw [faultPass_raised] at he
    split_ifs at he
    · cases he
    all_goals rw [List.mem_singleton.mp he]; simp [Event.pass, *]
  simp only [State.strobeWorks] at hw
  rcases i with _ | _ | _ | _ | _ | _ | _ | _ | _ | _ | _ | _ | _ | i
  all_goals cases hw
  · rw [monitorPass_raised htakes.2, List.mem_ite_nil_right, List.mem_singleton] at he
    rw [he.2]
    rfl
  · exact hfault .a he
  · exact hfault .b he
  · rw [State.echoPass_raised, List.mem_ite_nil_right, List.mem_singleton] at he
    rw [he.2]
    rfl
  · rw [listenPass_raised] at he
    split_ifs at he
    · rw [List.mem_singleton.mp he]; rfl
    · rw [List.mem_singleton.mp he]; rfl
    · cases he
  · obtain ⟨cause, finals, rfl, _⟩ := State.mem_closedPass.mp he
    rfl
  · obtain ⟨l, hlane⟩ := State.mem_lanePass.mp he
    rcases (mem_laneEvent_iff l _ _ _).mp hlane with ⟨_, rfl, _⟩ | ⟨_, rfl, _⟩ | ⟨_, rfl, _⟩ <;> rfl
  · obtain ⟨p, mix, rfl, _⟩ := State.mem_claimPass.mp he
    rfl
  · obtain ⟨timer, rfl, _⟩ := State.mem_withdrawalPass.mp he
    rfl
  · obtain ⟨p, rfl, _⟩ := State.mem_measurePass.mp he
    rfl
  · obtain ⟨m, a, _, hstatus⟩ := (State.mem_statusPass htakes).mp he
    rcases (mem_statusEvent_iff _ _ _ _ _).mp hstatus with ⟨rfl, _⟩ | ⟨_, rfl, _⟩ <;> rfl
  · obtain ⟨p, mix, cause, rfl, _⟩ := State.mem_returnPass.mp he
    rfl
  · obtain ⟨test, _, _, _, rfl⟩ := State.mem_testPass.mp he
    rfl

theorem State.strobeEvents_of_pass {s : State} {inp : StrobeInput} (htakes : s.takesStrobes) (j : Nat) :
    (s.strobeChains inp).flatten.flatten.filter (fun e => e.pass == j)
      = (((s.strobeWorks inp).map Work.raised)[j]?).getD [] := by
  have h := filter_flatten_of_ranks (lists := (s.strobeWorks inp).map Work.raised) (base := 0)
    (fun i list hlist e he => by
    rw [List.getElem?_map, Option.map_eq_some_iff] at hlist
    obtain ⟨w, hw, rfl⟩ := hlist
    rw [Nat.zero_add, State.pass_of_mem htakes hw he]) j
  rw [State.strobeChains_flatten]
  simpa only [Nat.zero_add] using h

/-! ## No event twice -/

/-- Lists of events that share none are without repetition together when each is. -/
theorem nodup_flatMap_of_disjoint {ι : Type} {items : List ι} {f : ι → List Event} (hitems : items.Nodup)
    (heach : ∀ x ∈ items, (f x).Nodup)
    (hkey : ∀ x ∈ items, ∀ y ∈ items, ∀ e, e ∈ f x → e ∈ f y → x = y) : (items.flatMap f).Nodup :=
  List.nodup_flatMap.mpr ⟨heach, hitems.imp_of_mem fun hx hy hne e hex hey => hne (hkey _ hx _ hy e hex hey)⟩

/-- The lane of a lane's event. -/
def Event.lane : Event → Option (Fin 16)
  | .lanePresent l _ => some l
  | .laneLost l _ => some l
  | .laneWithdrawn l _ => some l
  | _ => none

theorem laneEvent_lane {l : Fin 16} {lane : Lane} {frame : BlockFrame} {e : Event} (he : e ∈ laneEvent l lane frame) :
    e.lane = some l := by
  rcases (mem_laneEvent_iff l _ _ _).mp he with ⟨_, rfl, _⟩ | ⟨_, rfl, _⟩ | ⟨_, rfl, _⟩ <;> rfl

theorem laneEvent_nodup (l : Fin 16) (lane : Lane) (frame : BlockFrame) : (laneEvent l lane frame).Nodup := by
  unfold laneEvent
  split
  any_goals split
  all_goals simp

theorem State.lanePass_nodup (s : State) (frames : Vector BlockFrame 16) : (lanePass frames s).raised.Nodup :=
  nodup_flatMap_of_disjoint (List.nodup_finRange 16) (fun _ _ => laneEvent_nodup ..) fun _ _ _ _ _ hx hy =>
    Option.some.inj ((laneEvent_lane hx).symm.trans (laneEvent_lane hy))

theorem State.claimPass_nodup (s : State) (inp : StrobeInput) :
    (claimPass (s.blockFrames s.verdict) (s.absentLanes (s.blockFrames s.verdict)) (s.filed inp)).raised.Nodup := by
  rw [State.claimPass_raised]
  split
  · refine (List.nodup_finRange 8).filterMap fun p q e hp hq => ?_
    obtain ⟨_, _, rfl⟩ := Option.map_eq_some_iff.mp hp
    obtain ⟨_, _, hq⟩ := Option.map_eq_some_iff.mp hq
    cases hq
    rfl
  · exact List.nodup_nil

theorem measurePass_nodup (s : State) : (measurePass s).raised.Nodup := by
  refine nodup_flatMap_of_disjoint (List.nodup_finRange 8) (fun p _ => ?_) fun p _ q _ e hp hq => ?_
  · dsimp only
    split <;> simp
  · simp only [List.mem_ite_nil_right, List.mem_singleton] at hp hq
    obtain ⟨_, rfl⟩ := hp
    obtain ⟨_, hq⟩ := hq
    cases hq
    rfl

theorem statusEvent_nodup (mixTag party : Tag) (before after : Option ClaimStatus) :
    (statusEvent mixTag party before after).Nodup := by
  unfold statusEvent
  split <;> simp

/-- The mix and the party of a claim's event. -/
def Event.claim : Event → Option (Tag × Tag)
  | .claimGained mix party => some (mix, party)
  | .claimLost mix party _ => some (mix, party)
  | _ => none

theorem statusEvent_claim {mixTag party : Tag} {before after : Option ClaimStatus} {e : Event}
    (he : e ∈ statusEvent mixTag party before after) : e.claim = some (mixTag, party) := by
  rcases (mem_statusEvent_iff _ _ _ _ _).mp he with ⟨rfl, _⟩ | ⟨_, rfl, _⟩ <;> rfl

theorem State.mixTag_injective (s : State) {m n : Fin 4} (h : s.mixTag m = s.mixTag n) : m = n := by
  have hchannel := congrArg (fun t : Tag => t.channel.val) h
  simp only [State.mixTag, State.own, mixChannel] at hchannel
  omega

theorem State.statusPass_nodup {s : State} {inp : StrobeInput} (htakes : s.takesStrobes) (hsound : s.MixesSound) :
    (statusPass (s.measured inp)).raised.Nodup := by
  rw [State.statusPass_raised htakes]
  refine nodup_flatMap_of_disjoint (List.nodup_finRange 4) (fun m _ => ?_) fun m _ n _ e hm hn => ?_
  · have honce := (hsound m).once
    refine nodup_flatMap_of_disjoint honce.of_map (fun _ _ => statusEvent_nodup ..) fun a ha b hb e hea heb => ?_
    have hclaim := Option.some.inj ((statusEvent_claim hea).symm.trans (statusEvent_claim heb))
    exact List.inj_on_of_nodup_map honce ha hb (Prod.mk.inj hclaim).2
  · obtain ⟨a, _, ha⟩ := List.mem_flatMap.mp hm
    obtain ⟨b, _, hb⟩ := List.mem_flatMap.mp hn
    have hclaim := Option.some.inj ((statusEvent_claim ha).symm.trans (statusEvent_claim hb))
    exact s.mixTag_injective (Prod.mk.inj hclaim).1

theorem State.missEvent_cases (s : State) (p : Fin 8) :
    s.missEvent p = [] ∨ ∃ mix cause, s.missEvent p = [.cancelMiss p mix cause] := by
  rw [State.missEvent]
  rcases s.cancelMisses p with _ | ⟨⟨mix, cause⟩, rest⟩
  · exact .inl rfl
  · cases (s.ports.get p).missReported
    · exact .inr ⟨mix, cause, rfl⟩
    · exact .inl rfl

theorem returnPass_nodup (s : State) : (returnPass s).raised.Nodup := by
  have hport : ∀ p e, e ∈ (if s.builds p then s.missEvent p else []) → ∃ mix cause, e = .cancelMiss p mix cause := by
    intro p e he
    obtain ⟨_, he⟩ := List.mem_ite_nil_right.mp he
    rcases s.missEvent_cases p with h | ⟨mix, cause, h⟩ <;> rw [h] at he
    · cases he
    · exact ⟨mix, cause, List.mem_singleton.mp he⟩
  refine nodup_flatMap_of_disjoint (List.nodup_finRange 8) (fun p _ => ?_) fun p _ q _ e hp hq => ?_
  · rcases s.missEvent_cases p with h | ⟨mix, cause, h⟩ <;> rw [h] <;> split <;> simp
  · obtain ⟨_, _, rfl⟩ := hport p e hp
    obtain ⟨_, _, hq⟩ := hport q _ hq
    cases hq
    rfl

/-- No pass raises an event twice while the mixes list no tag twice. -/
theorem State.raised_nodup {s : State} {inp : StrobeInput} (htakes : s.takesStrobes) (hsound : s.MixesSound) {w : Work}
    (hw : w ∈ s.strobeWorks inp) : w.raised.Nodup := by
  simp only [State.strobeWorks, List.mem_cons, List.not_mem_nil, or_false] at hw
  rcases hw with rfl | rfl | rfl | rfl | rfl | rfl | rfl | rfl | rfl | rfl | rfl | rfl | rfl
  · rw [monitorPass_raised htakes.2]
    split <;> simp
  · rw [faultPass_raised]
    split_ifs <;> simp
  · rw [faultPass_raised]
    split_ifs <;> simp
  · rw [State.echoPass_raised]
    split <;> simp
  · rw [listenPass_raised]
    split_ifs <;> simp
  · rw [closedPass_raised]
    split
    · split_ifs <;> simp
    · simp
  · exact State.lanePass_nodup ..
  · exact s.claimPass_nodup inp
  · rw [withdrawalPass_raised]
    split
    · split_ifs <;> simp
    · simp
  · exact measurePass_nodup _
  · exact State.statusPass_nodup htakes hsound
  · exact returnPass_nodup _
  · rw [testPass_raised]
    split
    · dsimp only
      split_ifs <;> simp
    · simp

theorem State.strobeEvents_nodup {s : State} {inp : StrobeInput} (htakes : s.takesStrobes) (hsound : s.MixesSound) :
    (s.strobeChains inp).flatten.flatten.Nodup := by
  rw [List.nodup_iff_count_le_one]
  intro e
  have hpass := State.strobeEvents_of_pass (inp := inp) htakes e.pass
  rw [← List.count_filter (p := fun x => x.pass == e.pass) (by simp), hpass, List.getElem?_map]
  cases hw : (s.strobeWorks inp)[e.pass]? with
  | none => simp
  | some w => exact List.nodup_iff_count_le_one.mp (State.raised_nodup htakes hsound (List.mem_of_getElem? hw)) e

/-! ## The dropped claims in port order (R92, R170) -/

/-- One event raised before another, both dropped claims, names a lower port. -/
def inPortOrder (a b : Event) : Prop :=
  ∀ (p q : Fin 8) (m n : Tag), a = .claimDropped p m → b = .claimDropped q n → p < q

theorem State.claimPass_order (s : State) (inp : StrobeInput) :
    (claimPass (s.blockFrames s.verdict) (s.absentLanes (s.blockFrames s.verdict)) (s.filed inp)).raised.Pairwise
      inPortOrder := by
  rw [State.claimPass_raised]
  split
  · refine (List.pairwise_lt_finRange 8).filterMap _ fun p q hpq a ha b hb => ?_
    obtain ⟨_, _, rfl⟩ := Option.map_eq_some_iff.mp ha
    obtain ⟨_, _, rfl⟩ := Option.map_eq_some_iff.mp hb
    intro p' q' m n hp hq
    cases hp
    cases hq
    exact hpq
  · exact List.Pairwise.nil

/-- The events of the claim update stand in its order among all events of the strobe. -/
theorem State.claimPass_sublist {s u : State} {inp : StrobeInput} :
    (claimPass (s.blockFrames s.verdict) (s.absentLanes (s.blockFrames s.verdict)) (s.filed inp)).raised.Sublist
      (u.order (s.strobeChains inp).flatten) := by
  by_cases hactive : (s.filed inp).active = true
  · have hchains : (claimPass (s.blockFrames s.verdict) (s.absentLanes (s.blockFrames s.verdict)) (s.filed inp)).chains
        ∈ s.strobeChains inp := by simp [State.strobeChains]
    refine u.order_sublist _ _ (List.mem_flatten.mpr ⟨_, hchains, ?_⟩)
    rw [Work.raised, claimPass, if_pos hactive, List.flatten_cons, List.flatten_nil, List.append_nil]
    exact List.mem_singleton_self _
  · rw [Work.raised, claimPass, if_neg hactive]
    exact List.nil_sublist _

/-- The dropped claims among all events of the strobe are those of the claim update, in its order. -/
theorem State.order_claimDropped {s u : State} {inp : StrobeInput} (htakes : s.takesStrobes) :
    (u.order (s.strobeChains inp).flatten).Pairwise inPortOrder := by
  have hpass := State.strobeEvents_of_pass (inp := inp) htakes 7
  have hfilter := (u.order_perm (s.strobeChains inp).flatten).filter (fun e => e.pass == 7)
  rw [hpass] at hfilter
  have hall : (claimPass (s.blockFrames s.verdict) (s.absentLanes (s.blockFrames s.verdict))
    (s.filed inp)).raised.filter
      (fun e => e.pass == 7)
        = (claimPass (s.blockFrames s.verdict) (s.absentLanes (s.blockFrames s.verdict)) (s.filed inp)).raised :=
    List.filter_eq_self.mpr fun e he => by
      obtain ⟨_, _, rfl, _⟩ := State.mem_claimPass.mp he
      rfl
  have hsublist := (State.claimPass_sublist (s := s) (u := u) (inp := inp)).filter (fun e => e.pass == 7)
  rw [hall] at hsublist
  have hordered := s.claimPass_order inp
  rw [hsublist.eq_of_length hfilter.length_eq.symm, List.pairwise_filter] at hordered
  refine hordered.imp fun h p q m n ha hb => h ?_ ?_ p q m n ha hb
  · rw [ha]; rfl
  · rw [hb]; rfl

/-! ## The obligation -/

theorem State.strobe_raises {s : State} {inp : StrobeInput} (htakes : s.takesStrobes) :
    ∃ raised : List Event, s.queues (s.afterStrobe inp) raised
      ∧ (∀ e, e ∈ raised ↔ strobeRaises s (s.afterStrobe inp) e)
      ∧ (s.MixesSound → raised.Nodup) ∧ raised.Pairwise inPortOrder := by
  have hperm := State.order_perm (closeBlock (s.transmitted inp)).st (s.strobeChains inp).flatten
  refine ⟨(closeBlock (s.transmitted inp)).st.order (s.strobeChains inp).flatten, ?_, fun e => ?_, fun hsound => ?_,
    State.order_claimDropped htakes⟩
  · have hqueues := State.raiseAll_queues (closeBlock (s.transmitted inp)).st (s.strobeChains inp).flatten
    rw [← s.afterStrobe_taken inp htakes] at hqueues
    refine State.queues_of_events ?_ ?_ hqueues
    · rw [closeBlock_events, State.transmitted_events]
    · rw [closeBlock_overflow, State.transmitted_overflow]
  · rw [hperm.mem_iff, State.mem_strobeEvents_iff htakes, State.raises_iff htakes]
  · exact hperm.nodup_iff.mpr (State.strobeEvents_nodup htakes hsound)

/-- Settles O34: a strobe that is not taken raises nothing, one that is taken what its passes raise, and the one that
brings an UNTIMED station back is taken in STARTING. -/
theorem strobesRaiseTheirEvents : Obligations.StrobesRaiseTheirEvents := by
  intro s inp hreset
  have hmonitor := State.afterStrobe_monitor_eq (inp := inp) hreset
  refine ⟨s.afterStrobe inp, rfl, fun huntimed hquiet => ?_, fun taken htaken => ?_⟩
  · have hreturns : s.monitor.returns inp.instant = false := by
      rw [← Bool.not_eq_true, Monitor.returns_iff, ← hmonitor]
      rintro ⟨hlost, htimed⟩
      rcases hquiet with h | h
      · rw [h] at hlost
        cases hlost
      · rw [h] at htimed
        cases htimed
    rw [s.afterStrobe_of_untimed inp hreset huntimed hreturns]
    simp [State.queues]
  · rcases htaken with ⟨huntimed, rfl⟩ | ⟨huntimed, hlost, htimed, rfl⟩
    · exact State.strobe_raises ⟨hreset, huntimed⟩
    · rw [hmonitor] at htimed
      rw [s.afterStrobe_of_returns inp hreset huntimed ((Monitor.returns_iff ..).mpr ⟨hlost, htimed⟩)]
      exact State.strobe_raises (s.back_takesStrobes hreset)

end Sys2Proof.Machine
end

section
/-! Frames read back as sent (R9, R174 to R177): each section is read from the bytes it was laid out in, and the checks
laid out are those that reception forms again. -/

namespace Sys2Proof.Machine

/-! ## The sections of a frame -/

theorem readWants_of_laid (wants : List (Tag × Tag)) (after : List Byte) :
    readWants wants.length (wants.flatMap (fun w => [tagByte w.1, tagByte w.2]) ++ after) = wants := by
  induction wants with
  | nil => cases after <;> rfl
  | cons want rest ih =>
    rw [List.length_cons, List.flatMap_cons, List.append_assoc, List.cons_append, List.cons_append, readWants,
      List.nil_append, ih, tagOfByte_tagByte, tagOfByte_tagByte]

theorem seq_of_be2 (q : Seq) :
    BitVec.ofNat 16 (nat2 (BitVec.ofNat 8 (q.toNat / 256)) (BitVec.ofNat 8 q.toNat)) = q := by
  rw [nat2_be2, Nat.mod_eq_of_lt q.isLt, BitVec.ofNat_toNat, BitVec.setWidth_eq]

theorem readStamps_of_laid (stamps : List (Fin 16 × Seq)) (after : List Byte) :
    readStamps stamps.length (stamps.flatMap (fun st => be2 st.2.toNat) ++ after) = some (stamps.map (·.2), after) := by
  induction stamps with
  | nil => rfl
  | cons stamp rest ih =>
    rw [List.length_cons, List.flatMap_cons, List.append_assoc, be2, List.cons_append, List.cons_append, readStamps,
      List.nil_append, ih, seq_of_be2]
    rfl

theorem readTerms_of_laid {terms : List (Tag × Nat)} (hterms : ∀ t ∈ terms, t.2 ≤ 65535) (after : List Byte) :
    readTerms terms.length (terms.flatMap (fun t => tagByte t.1 :: 0 :: be2 t.2) ++ after) = some (terms, after) := by
  induction terms with
  | nil => rfl
  | cons term rest ih =>
    obtain ⟨hterm, hrest⟩ := List.forall_mem_cons.mp hterms
    rw [List.length_cons, List.flatMap_cons, List.append_assoc, be2, List.cons_append, List.cons_append,
      List.cons_append, List.cons_append, readTerms, List.nil_append, ih hrest, nat2_be2, tagOfByte_tagByte,
      Nat.mod_eq_of_lt (Nat.lt_succ_of_le hterm)]
    rfl

/-- A record as reception reads it: the stamps without their lanes (R175). -/
def rawRecordOf (r : CompRecord) : RawRecord :=
  { channel := BitVec.ofNat 8 r.channel.val, stamps := r.stamps.map (·.2), terms := r.terms, clip := r.clip }

/-- A record whose bytes can count its terms and stamps, and carry its coefficients. -/
def CompRecord.Countable (r : CompRecord) : Prop :=
  r.terms.length ≤ 48 ∧ r.stamps.length ≤ 16 ∧ ∀ t ∈ r.terms, t.2 ≤ 65535

theorem count_of_be1 {n : Nat} (h : n < 256) : (BitVec.ofNat 8 n).toNat = n := by
  rw [BitVec.toNat_ofNat]
  exact Nat.mod_eq_of_lt h

theorem flag_of_flagByte (f : Bool) : (if f then 1 else 0 : Byte).getLsbD 0 = f := by cases f <;> rfl

theorem readRecords_of_laid {records : List CompRecord} (hrecords : ∀ r ∈ records, r.Countable) (after : List Byte) :
    readRecords records.length (records.flatMap recordBytes ++ after) = some (records.map rawRecordOf, after) := by
  induction records with
  | nil => rfl
  | cons r rest ih =>
    obtain ⟨⟨hterms, hstamps, hcoefficients⟩, hrest⟩ := List.forall_mem_cons.mp hrecords
    have hlaid : (r :: rest).flatMap recordBytes ++ after =
        BitVec.ofNat 8 r.channel.val :: BitVec.ofNat 8 r.terms.length :: BitVec.ofNat 8 r.stamps.length
          :: (if r.clip then 1 else 0) :: (r.stamps.flatMap (fun st => be2 st.2.toNat)
            ++ (r.terms.flatMap (fun t => tagByte t.1 :: 0 :: be2 t.2) ++ (rest.flatMap recordBytes ++ after))) := by
      simp [recordBytes, be1, flagByte]
    rw [hlaid, List.length_cons, readRecords, count_of_be1 (show r.stamps.length < 256 by omega),
      count_of_be1 (show r.terms.length < 256 by omega), readStamps_of_laid, Option.bind_some,
      readTerms_of_laid hcoefficients, Option.bind_some, ih hrest, flag_of_flagByte]
    rfl

theorem recordBytes_length (r : CompRecord) : (recordBytes r).length =
    4 + 2 * r.stamps.length + 4 * r.terms.length := by
  have hstamps : (r.stamps.flatMap fun st => be2 st.2.toNat).length = 2 * r.stamps.length :=
    flatMap_length _ fun _ => rfl
  have hterms : (r.terms.flatMap fun t => tagByte t.1 :: 0 :: be2 t.2).length = 4 * r.terms.length :=
    flatMap_length _ fun _ => rfl
  simp only [recordBytes, List.length_append, be1_length, flagByte_length, hstamps, hterms]

/-! ## Samples -/

/-- The bytes of one channel's samples (R175). -/
def blockBytes (b : Block) : List Byte := b.toList.flatMap be4Signed

theorem blockBytes_length (b : Block) : (blockBytes b).length = 64 := by
  rw [blockBytes, flatMap_length b.toList (width := 4) fun _ => rfl, Vector.length_toList]

theorem int4_of_be4Signed {v : Int} (hlow : -2147483648 ≤ v) (hhigh : v ≤ 2147483647) :
    int4 (byteAt (be4Signed v) 0) (byteAt (be4Signed v) 1) (byteAt (be4Signed v) 2) (byteAt (be4Signed v) 3) = v := by
  have hnat : nat4 (byteAt (be4Signed v) 0) (byteAt (be4Signed v) 1) (byteAt (be4Signed v) 2) (byteAt (be4Signed v) 3)
      = (v % 4294967296).toNat := by
    refine (nat4_be4 _).trans (Nat.mod_eq_of_lt ?_)
    omega
  rw [int4, hnat]
  split <;> omega

/-- Each channel's samples are read from the place of the channel among those shown. -/
theorem blockAt_of_laid {samples : List Block}
    (hsamples : ∀ b ∈ samples, ∀ n, -2147483648 ≤ b.get n ∧ b.get n ≤ 2147483647) {k : Nat} {b : Block}
    (hk : samples[k]? = some b) : blockAt (samples.flatMap blockBytes) k = b := by
  refine table_ext fun n => ?_
  have hblock := (holdsAt_self _).item (lay := blockBytes) blockBytes_length hk
  have hsample := hblock.item (lay := be4Signed) (width := 4) (fun _ => rfl) (i := n.val) (x := b.get n)
    (by simp [vector_get])
  obtain ⟨hlow, hhigh⟩ := hsamples b (List.mem_of_getElem? hk) n
  have hbyte : ∀ i, i < 4 → byteAt (samples.flatMap blockBytes) (64 * k + 4 * n.val + i) = byteAt
    (be4Signed (b.get n)) i :=
    fun i hi => by
      have := hsample.byteAt_add (i := i) hi
      rwa [Nat.zero_add] at this
  rw [blockAt, tab_get, sampleAt]
  rw [← Nat.add_zero (64 * k + 4 * n.val), hbyte 0 (by decide), hbyte 1 (by decide), hbyte 2 (by decide),
    hbyte 3 (by decide), int4_of_be4Signed hlow hhigh]

end Sys2Proof.Machine
end

section
/-! Settles O54: a frame laid out by the layouts of R175 passes the tests of reception and reads back as sent. -/

namespace Sys2Proof.Machine

/-- What a frame can carry (R175): channels ascending, a descriptor and a block for each, and wants, records, terms and
stamps that the bytes of their counts can count. -/
structure FrameContent.Fits (c : FrameContent) : Prop where
  kind : 1 ≤ c.kind ∧ c.kind ≤ 3
  shown : ∃ shows : Fin 16 → Bool, c.shown = (List.finRange 16).filter shows
  descriptors : c.descriptors.length = c.shown.length
  descriptor : ∀ d ∈ c.descriptors, d.length = 4
  samples : c.samples.length = c.shown.length
  sample : ∀ b ∈ c.samples, ∀ n, -2147483648 ≤ b.get n ∧ b.get n ≤ 2147483647
  wants : c.wants.length ≤ 64
  records : c.records.length ≤ 4
  record : ∀ r ∈ c.records, r.Countable

/-! ## Lengths -/

/-- The wants' bytes. -/
def wantBytes (w : Tag × Tag) : List Byte := [tagByte w.1, tagByte w.2]

theorem bodyBytes_eq (c : FrameContent) :
    bodyBytes c = c.descriptors.flatten ++ c.wants.flatMap wantBytes ++ c.records.flatMap recordBytes
      ++ c.samples.flatMap blockBytes := rfl

theorem FrameContent.Fits.descriptors_length {c : FrameContent} (h : c.Fits) :
    c.descriptors.flatten.length = 4 * c.shown.length := by
  have hsum := List.sum_eq_card_nsmul (c.descriptors.map List.length) 4 fun x hx => by
    obtain ⟨d, hd, rfl⟩ := List.mem_map.mp hx
    exact h.descriptor d hd
  rw [List.length_flatten, hsum, List.length_map, h.descriptors, smul_eq_mul, Nat.mul_comm]

theorem wants_length (wants : List (Tag × Tag)) : (wants.flatMap wantBytes).length = 2 * wants.length :=
  flatMap_length wants fun _ => rfl

theorem records_length (records : List CompRecord) : (records.flatMap recordBytes).length =
    (records.map fun r => 4 + 2 * r.stamps.length + 4 * r.terms.length).sum := by
  simp only [List.length_flatMap, recordBytes_length]

theorem FrameContent.Fits.records_length_le {c : FrameContent} (h : c.Fits) :
    (c.records.map fun r => 4 + 2 * r.stamps.length + 4 * r.terms.length).sum ≤ 912 := by
  have hsum := List.sum_le_card_nsmul (c.records.map fun r => 4 + 2 * r.stamps.length + 4 * r.terms.length) 228
    fun x hx => by
      obtain ⟨r, hr, rfl⟩ := List.mem_map.mp hx
      obtain ⟨hterms, hstamps, _⟩ := h.record r hr
      omega
  rw [List.length_map, smul_eq_mul] at hsum
  have hfew := h.records
  omega

theorem FrameContent.Fits.samples_length {c : FrameContent} (h : c.Fits) :
    (c.samples.flatMap blockBytes).length = 64 * c.shown.length := by
  rw [flatMap_length _ blockBytes_length, h.samples]

theorem FrameContent.Fits.shown_length_le {c : FrameContent} (h : c.Fits) : c.shown.length ≤ 16 := by
  obtain ⟨shows, hshown⟩ := h.shown
  rw [hshown]
  exact (List.length_filter_le _ _).trans_eq List.length_finRange

theorem FrameContent.Fits.body_length {c : FrameContent} (h : c.Fits) :
    (bodyBytes c).length = 68 * c.shown.length + 2 * c.wants.length
      + (c.records.map fun r => 4 + 2 * r.stamps.length + 4 * r.terms.length).sum := by
  rw [bodyBytes_eq, List.length_append, List.length_append, List.length_append, h.descriptors_length, wants_length,
    records_length, h.samples_length]
  omega

/-! ## The checks laid out -/

section Layout

variable (station : Fin 16) (sequence : Seq) (c : FrameContent)

/-- The header without its check. -/
def headOf : List Byte := headerBytes station sequence c (16 + (bodyBytes c).length + 4)

/-- A frame's bytes before the frame check. -/
def checkedBytes : List Byte :=
  headOf station sequence c ++ be2 (headerCheck (headOf station sequence c)).toNat ++ bodyBytes c

theorem frameBytes_eq : frameBytes station sequence c =
    checkedBytes station sequence c ++ be4 (frameCheck (checkedBytes station sequence c)).toNat := rfl

theorem headOf_length : (headOf station sequence c).length = 14 := rfl

theorem checkedBytes_length : (checkedBytes station sequence c).length = 16 + (bodyBytes c).length := by
  rw [checkedBytes, List.length_append, List.length_append, headOf_length, be2_length]

theorem frameBytes_length : (frameBytes station sequence c).length = 20 + (bodyBytes c).length := by
  rw [frameBytes_eq, List.length_append, checkedBytes_length, be4_length]
  omega

theorem test1_frameBytes : test1 (frameBytes station sequence c) = true := by
  have hlaid : frameBytes station sequence c = headOf station sequence c
      ++ (be2 (headerCheck (headOf station sequence c)).toNat
        ++ (bodyBytes c ++ be4 (frameCheck (checkedBytes station sequence c)).toNat)) := by
    rw [frameBytes_eq]
    simp only [checkedBytes, List.append_assoc]
  have hlong : 16 ≤ (frameBytes station sequence c).length := by
    rw [frameBytes_length]
    omega
  have hhead : (frameBytes station sequence c).take 14 = headOf station sequence c := by
    rw [hlaid]
    exact List.take_left' (headOf_length station sequence c)
  have hcheck : ((frameBytes station sequence c).drop 14).take 2
      = be2 (headerCheck (headOf station sequence c)).toNat := by
    rw [hlaid, List.drop_left' (headOf_length station sequence c)]
    exact List.take_left' (be2_length _)
  rw [test1, hhead, hcheck, decide_eq_true hlong, beq_self_eq_true, Bool.and_self]

theorem lengthField_frameBytes (h : (bodyBytes c).length ≤ 65515) :
    lengthField (frameBytes station sequence c) = (frameBytes station sequence c).length := by
  have hfield : lengthField (frameBytes station sequence c) = (16 + (bodyBytes c).length + 4) % 65536 := nat2_be2 _
  rw [hfield, frameBytes_length]
  omega

theorem test3_frameBytes (h : (bodyBytes c).length ≤ 65515) : test3 (frameBytes station sequence c) = true := by
  have hplace : lengthField (frameBytes station sequence c) - 4 = (checkedBytes station sequence c).length := by
    rw [lengthField_frameBytes station sequence c h, frameBytes_length, checkedBytes_length]
    omega
  have hchecked : (frameBytes station sequence c).take (checkedBytes station sequence c).length
      = checkedBytes station sequence c := List.take_left
  have hcheck : ((frameBytes station sequence c).drop (checkedBytes station sequence c).length).take 4
      = be4 (frameCheck (checkedBytes station sequence c)).toNat := by
    rw [frameBytes_eq, List.drop_left]
    rfl
  simp only [test3, hplace, hchecked, hcheck, beq_self_eq_true]

/-! ## The header's fields -/

theorem stationField_frameBytes : (byteAt (frameBytes station sequence c) 0).toNat = station.val :=
  count_of_be1 (n := station.val) (by omega)

theorem mapField_frameBytes (hsorted : c.shown.Pairwise (· < ·)) (channel : Fin 16) :
    (mapField (frameBytes station sequence c)).getLsbD channel.val = true ↔ channel ∈ c.shown := by
  have hmap : mapField (frameBytes station sequence c) = BitVec.ofNat 16 (mapValue c.shown) := by
    have hfield : nat2At (frameBytes station sequence c) 4 = mapValue c.shown % 65536 := nat2_be2 _
    rw [mapField, hfield, Nat.mod_eq_of_lt (mapValue_lt hsorted)]
  rw [hmap, BitVec.getLsbD_ofNat, decide_eq_true channel.isLt, Bool.true_and, mapValue_testBit hsorted]
  exact ⟨fun ⟨d, hd, hval⟩ => Fin.ext hval ▸ hd, fun hmem => ⟨channel, hmem, rfl⟩⟩

theorem shown_of_frameBytes (h : c.Fits) : shownChannels (mapField (frameBytes station sequence c)) = c.shown := by
  obtain ⟨shows, hshown⟩ := h.shown
  have hsorted : c.shown.Pairwise (· < ·) := by
    rw [hshown]
    exact (List.pairwise_lt_finRange 16).filter _
  rw [shownChannels, hshown]
  refine List.filter_congr fun channel _ => ?_
  rw [Bool.eq_iff_iff, mapField_frameBytes station sequence c hsorted, hshown, List.mem_filter]
  exact and_iff_right (List.mem_finRange channel)

/-! ## The walk (R176) -/

/-- What the walk finds. -/
def sectionsOf : Sections :=
  { shown := c.shown, descriptors := c.descriptors.flatten, wants := c.wants, records := c.records.map rawRecordOf
    samples := c.samples.flatMap blockBytes }

/-- The bytes of a frame, section by section. -/
theorem frameBytes_sections : frameBytes station sequence c =
    (headOf station sequence c ++ be2 (headerCheck (headOf station sequence c)).toNat) ++ (c.descriptors.flatten
      ++ (c.wants.flatMap wantBytes ++ (c.records.flatMap recordBytes ++ (c.samples.flatMap blockBytes
        ++ be4 (frameCheck (checkedBytes station sequence c)).toNat)))) := by
  rw [frameBytes_eq]
  simp only [checkedBytes, bodyBytes_eq, List.append_assoc]

theorem countFields_frameBytes (h : c.Fits) :
    (byteAt (frameBytes station sequence c) 7).toNat = c.wants.length
      ∧ (byteAt (frameBytes station sequence c) 8).toNat = c.records.length :=
  have hwants := h.wants
  have hrecords := h.records
  ⟨count_of_be1 (n := c.wants.length) (by omega), count_of_be1 (n := c.records.length) (by omega)⟩

theorem walk_frameBytes (h : c.Fits) : walk (frameBytes station sequence c) = some (sectionsOf c) := by
  obtain ⟨hwants, hrecords⟩ := countFields_frameBytes station sequence c h
  have hbody : (frameBytes station sequence c).drop 16 = c.descriptors.flatten
      ++ (c.wants.flatMap wantBytes ++ (c.records.flatMap recordBytes ++ (c.samples.flatMap blockBytes
        ++ be4 (frameCheck (checkedBytes station sequence c)).toNat))) := by
    rw [frameBytes_sections]
    exact List.drop_left' rfl
  have hafter : (frameBytes station sequence c).drop (16 + 4 * c.shown.length) = c.wants.flatMap wantBytes
      ++ (c.records.flatMap recordBytes ++ (c.samples.flatMap blockBytes
        ++ be4 (frameCheck (checkedBytes station sequence c)).toNat)) := by
    rw [← List.drop_drop, hbody]
    exact List.drop_left' h.descriptors_length
  have hrest : (frameBytes station sequence c).drop (16 + 4 * c.shown.length + 2 * c.wants.length) =
      c.records.flatMap recordBytes ++ (c.samples.flatMap blockBytes
        ++ be4 (frameCheck (checkedBytes station sequence c)).toNat) := by
    rw [← List.drop_drop, hafter]
    exact List.drop_left' (wants_length _)
  have hlong : ¬(frameBytes station sequence c).length < 16 + 4 * c.shown.length + 2 * c.wants.length := by
    rw [frameBytes_length, h.body_length]
    omega
  have htail : (c.samples.flatMap blockBytes
      ++ be4 (frameCheck (checkedBytes station sequence c)).toNat).length = 64 * c.shown.length + 4 := by
    rw [List.length_append, h.samples_length, be4_length]
  simp only [walk, shown_of_frameBytes station sequence c h, hwants, hrecords, if_neg hlong, hrest,
    readRecords_of_laid h.record, Option.bind_some, if_pos htail, hbody, hafter]
  rw [List.take_left' h.descriptors_length, List.take_left' h.samples_length]
  exact congrArg (fun wants => some { sectionsOf c with wants := wants }) (readWants_of_laid c.wants _)

/-! ## Reception -/

theorem body_length_le (h : c.Fits) : (bodyBytes c).length ≤ 2128 := by
  have hshown := h.shown_length_le
  have hwants := h.wants
  have hrecords := h.records_length_le
  rw [h.body_length]
  omega

theorem take_frameBytes (h : c.Fits) :
    (frameBytes station sequence c).take (lengthField (frameBytes station sequence c))
      = frameBytes station sequence c := by
  have hbody := body_length_le c h
  rw [lengthField_frameBytes station sequence c (by omega), List.take_length]

theorem test2_frameBytes (h : c.Fits) : test2 (frameBytes station sequence c) .atLength = true := by
  obtain ⟨hwants, hrecords⟩ := countFields_frameBytes station sequence c h
  have hbody := body_length_le c h
  have hlength : 20 ≤ lengthField (frameBytes station sequence c)
      ∧ lengthField (frameBytes station sequence c) ≤ 2304
      ∧ lengthField (frameBytes station sequence c) ≤ (frameBytes station sequence c).length := by
    rw [lengthField_frameBytes station sequence c (by omega), frameBytes_length]
    omega
  have hcounts : (byteAt (frameBytes station sequence c) 7).toNat ≤ 64
      ∧ (byteAt (frameBytes station sequence c) 8).toNat ≤ 4 := by
    rw [hwants, hrecords]
    exact ⟨h.wants, h.records⟩
  simp only [test2, take_frameBytes station sequence c h, walk_frameBytes station sequence c h, decide_eq_true hlength,
    decide_eq_true hcounts]
  rfl

/-- The class of a frame laid out, on the lane it is received on (R9). -/
theorem checkFrame_frameBytes (h : c.Fits) (lane : Fin 16) :
    checkFrame lane (frameBytes station sequence c) .atLength =
      { bytes := frameBytes station sequence c
        cls := if lane ≠ station then .stationMismatch else if c.kind = 3 then .testFrame else .good } := by
  obtain ⟨hlow, hhigh⟩ := h.kind
  have hbody := body_length_le c h
  have hkind : (byteAt (frameBytes station sequence c) 1).toNat = c.kind := by
    rw [frameBytes_kind]
    exact count_of_be1 (by omega)
  have h4 : test4 lane (frameBytes station sequence c) = decide (lane = station) := by
    rw [test4, stationField_frameBytes]
    exact decide_eq_decide.mpr ⟨fun h => (Fin.ext h).symm, fun h => congrArg Fin.val h.symm⟩
  have h5 : test5 (frameBytes station sequence c) = true := by
    rw [test5, hkind]
    exact decide_eq_true ⟨hlow, hhigh⟩
  have h6 : test6 (frameBytes station sequence c) = decide (c.kind ≠ 3) := by
    rw [test6, hkind]
    exact decide_eq_decide.mpr (by omega)
  simp only [checkFrame, test1_frameBytes, test2_frameBytes station sequence c h, take_frameBytes station sequence c h,
    test3_frameBytes station sequence c (by omega), h4, h5, h6]
  by_cases hlane : lane = station <;> by_cases htest : c.kind = 3 <;> simp [hlane, htest]

end Layout

/-- Settles O54: the tests of reception, the length, and the sections that the walk finds. -/
theorem framesReadBackAsSent : Obligations.FramesReadBackAsSent := by
  intro station sequence c hlow hhigh hshown hdescriptors hdescriptor hsamples hsample hwants hrecords hrecord
  have h : c.Fits :=
    ⟨⟨hlow, hhigh⟩, hshown, hdescriptors, hdescriptor, hsamples, hsample, hwants, hrecords, hrecord⟩
  intro bytes
  have hwalk : (readFrame bytes).sections = sectionsOf c := by
    rw [readFrame, walk_frameBytes station sequence c h]
    rfl
  have hlength : bytes.length = 20 + (bodyBytes c).length := frameBytes_length ..
  have hbody := body_length_le c h
  rw [hwalk]
  refine ⟨?_, fun lane hlane => ?_, ?_, by omega, ?_, ?_, ?_, rfl, rfl, rfl, rfl, fun k b hk =>
    blockAt_of_laid hsample hk⟩
  · rw [checkFrame_frameBytes station sequence c h, if_neg (not_not.mpr rfl)]
  · rw [checkFrame_frameBytes station sequence c h, if_pos hlane]
  · rw [hlength, h.body_length]
    omega
  · have hkind : (byteAt bytes 1).toNat = c.kind := by
      rw [frameBytes_kind]
      exact count_of_be1 (by omega)
    rw [readFrame, hkind]
    rfl
  · exact seq_of_be2 sequence
  · rw [readFrame, frameBytes_withdrawing, flag_of_flagByte]

end Sys2Proof.Machine
end
